-- ==== Sys2Proof/Word.lean ====
section
/-! DEFINITION. The word types of CORE (rules R6, R20, R23, R24) and the names an operand field can
hold (rules R92, R93, R94, R120): registers, pairs, conditions, 8-bit locations. -/

namespace Sys2Proof

/-- A u8: the width of a register and of a memory byte (rule R6). -/
abbrev Byte := BitVec 8

/-- A u16: the width of a pair, of SP, of PC and of an address (rule R6). -/
abbrev Word := BitVec 16

/-- An address of the one space of 65,536 bytes (rule R41). -/
abbrev Addr := BitVec 16

/-- The seven 8-bit registers (rule R20); code 6 of rule R92 is no register. -/
inductive Reg8 where
  | b | c | d | e | h | l | a
deriving DecidableEq, Repr

/-- An 8-bit location `x[i]` (rule R120): a register, or the memory byte at HL (code 6). -/
inductive Slot where
  | reg (r : Reg8)
  | hl
deriving DecidableEq, Repr

/-- The pairs of table rp (rule R93): of `LD rr,nn`, `INC rr`, `DEC rr`, `ADD HL,rr`. -/
inductive Pair where
  | bc | de | hl | sp
deriving DecidableEq, Repr

/-- The pairs of table rp2 (rule R93): of `PUSH qq` and `POP qq`. -/
inductive StackPair where
  | bc | de | hl | af
deriving DecidableEq, Repr

/-- The four conditions (rules R94, R230). -/
inductive Cond where
  | nz | z | nc | c
deriving DecidableEq, Repr

/-- `{hi, lo}`: the u16 with `hi` as its high byte (rule R12). -/
def join (hi lo : Byte) : Word := hi ++ lo

/-- `v[15:8]`. -/
def hiByte (v : Word) : Byte := v.extractLsb' 8 8

/-- `v[7:0]`. -/
def loByte (v : Word) : Byte := v.extractLsb' 0 8

end Sys2Proof
end

