-- ==== Sys2Proof/Config.lean ====
section
/-! DEFINITION. What is fixed for one machine and what a launch chooses: the OPEN reset parameters
of rule R7. (The parameters that have defaults, cycle amounts and handler addresses, stand in
Machine/Cycles.lean.) CORE leaves no result undefined, so there is no free value here. -/

namespace Sys2Proof

/-- What a memory byte that nothing has listed reads as. DESIGN CHOICE (log entry 3), unsafe:
`RESET_MEM` is OPEN in rule R7. -/
def Config.unlistedByte : Byte := 0#8

/-- The argument `launch` of `Reset(launch)` (rules R5, R7, R360): every OPEN reset parameter.
`resetMem` lists the bytes of `RESET_MEM`, a later entry of one address over an earlier one. -/
structure Launch where
  resetA : Byte
  resetF : Byte
  resetB : Byte
  resetC : Byte
  resetD : Byte
  resetE : Byte
  resetH : Byte
  resetL : Byte
  resetSP : Word
  resetPC : Word
  resetMem : List (Addr × Byte)
deriving DecidableEq, Repr

/-- The launch that `State.reset` stands for. DESIGN CHOICE (log entries 1, 2, 3), unsafe: the spec
gives none of these values. -/
def Config.defaultLaunch : Launch where
  resetA := 0#8
  resetF := 0#8
  resetB := 0#8
  resetC := 0#8
  resetD := 0#8
  resetE := 0#8
  resetH := 0#8
  resetL := 0#8
  resetSP := 0#16
  resetPC := 0#16
  resetMem := []

end Sys2Proof
end

