-- ==== Sys2Proof/Syntax.lean ====
section
/-! DEFINITION. The instructions of CORE as syntax: one constructor for each row of
spec/opcode_table.json, in the table's order, with its operands. -/

namespace Sys2Proof

/-- One instruction. Each docstring gives the spec's spelling and the rule of its meaning. `e` is the
raw displacement byte, `nn` the 16-bit operand, `b` a bit index, `t` a restart index. -/
inductive Instr where
  /-- `NOP`, rule R250. -/
  | nop
  /-- `STOP`, rule R252. -/
  | stop (n : Byte)
  /-- `HALT`, rule R251. -/
  | halt
  /-- `DI`, rule R253. -/
  | di
  /-- `EI`, rule R254. -/
  | ei
  /-- `DAA`, rule R255. -/
  | daa
  /-- `CPL`, rule R256. -/
  | cpl
  /-- `SCF`, rule R257. -/
  | scf
  /-- `CCF`, rule R258. -/
  | ccf
  /-- `LD r,r'`, rule R121. -/
  | ldRR (dst src : Reg8)
  /-- `LD r,n`, rule R122. -/
  | ldRN (dst : Reg8) (n : Byte)
  /-- `LD r,(HL)`, rule R123. -/
  | ldRHL (dst : Reg8)
  /-- `LD (HL),r`, rule R124. -/
  | ldHLR (src : Reg8)
  /-- `LD (HL),n`, rule R125. -/
  | ldHLN (n : Byte)
  /-- `LD A,(BC)`, rule R126. -/
  | ldABC
  /-- `LD A,(DE)`, rule R127. -/
  | ldADE
  /-- `LD (BC),A`, rule R128. -/
  | ldBCA
  /-- `LD (DE),A`, rule R129. -/
  | ldDEA
  /-- `LD A,(nn)`, rule R130. -/
  | ldANN (nn : Word)
  /-- `LD (nn),A`, rule R131. -/
  | ldNNA (nn : Word)
  /-- `LDH A,(C)`, rule R132. -/
  | ldhAC
  /-- `LDH (C),A`, rule R133. -/
  | ldhCA
  /-- `LDH A,(n)`, rule R134. -/
  | ldhAN (n : Byte)
  /-- `LDH (n),A`, rule R135. -/
  | ldhNA (n : Byte)
  /-- `LD A,(HL+)`, rule R136. -/
  | ldAHLI
  /-- `LD A,(HL-)`, rule R137. -/
  | ldAHLD
  /-- `LD (HL+),A`, rule R138. -/
  | ldHLIA
  /-- `LD (HL-),A`, rule R139. -/
  | ldHLDA
  /-- `ADD A,r`, rule R152. -/
  | addAR (src : Reg8)
  /-- `ADD A,(HL)`, rule R152. -/
  | addAHL
  /-- `ADD A,n`, rule R152. -/
  | addAN (n : Byte)
  /-- `ADC A,r`, rule R153. -/
  | adcAR (src : Reg8)
  /-- `ADC A,(HL)`, rule R153. -/
  | adcAHL
  /-- `ADC A,n`, rule R153. -/
  | adcAN (n : Byte)
  /-- `SUB A,r`, rule R154. -/
  | subAR (src : Reg8)
  /-- `SUB A,(HL)`, rule R154. -/
  | subAHL
  /-- `SUB A,n`, rule R154. -/
  | subAN (n : Byte)
  /-- `SBC A,r`, rule R155. -/
  | sbcAR (src : Reg8)
  /-- `SBC A,(HL)`, rule R155. -/
  | sbcAHL
  /-- `SBC A,n`, rule R155. -/
  | sbcAN (n : Byte)
  /-- `AND A,r`, rule R156. -/
  | andAR (src : Reg8)
  /-- `AND A,(HL)`, rule R156. -/
  | andAHL
  /-- `AND A,n`, rule R156. -/
  | andAN (n : Byte)
  /-- `XOR A,r`, rule R157. -/
  | xorAR (src : Reg8)
  /-- `XOR A,(HL)`, rule R157. -/
  | xorAHL
  /-- `XOR A,n`, rule R157. -/
  | xorAN (n : Byte)
  /-- `OR A,r`, rule R158. -/
  | orAR (src : Reg8)
  /-- `OR A,(HL)`, rule R158. -/
  | orAHL
  /-- `OR A,n`, rule R158. -/
  | orAN (n : Byte)
  /-- `CP A,r`, rule R159. -/
  | cpAR (src : Reg8)
  /-- `CP A,(HL)`, rule R159. -/
  | cpAHL
  /-- `CP A,n`, rule R159. -/
  | cpAN (n : Byte)
  /-- `INC r`, rule R160. -/
  | incR (dst : Reg8)
  /-- `INC (HL)`, rule R161. -/
  | incHL
  /-- `DEC r`, rule R162. -/
  | decR (dst : Reg8)
  /-- `DEC (HL)`, rule R163. -/
  | decHL
  /-- `LD rr,nn`, rule R181. -/
  | ldPairNN (p : Pair) (nn : Word)
  /-- `LD SP,HL`, rule R182. -/
  | ldSPHL
  /-- `PUSH qq`, rule R183. -/
  | push (q : StackPair)
  /-- `POP qq`, rule R184. -/
  | pop (q : StackPair)
  /-- `LD HL,SP+e`, rule R185. -/
  | ldHLSPE (e : Byte)
  /-- `LD (nn),SP`, rule R186. -/
  | ldNNSP (nn : Word)
  /-- `ADD HL,rr`, rule R191. -/
  | addHLPair (p : Pair)
  /-- `ADD SP,e`, rule R192. -/
  | addSPE (e : Byte)
  /-- `INC rr`, rule R193. -/
  | incPair (p : Pair)
  /-- `DEC rr`, rule R194. -/
  | decPair (p : Pair)
  /-- `RLCA`, rule R201. -/
  | rlca
  /-- `RRCA`, rule R202. -/
  | rrca
  /-- `RLA`, rule R203. -/
  | rla
  /-- `RRA`, rule R204. -/
  | rra
  /-- `RLC r`, rule R205. -/
  | rlcR (r : Reg8)
  /-- `RLC (HL)`, rule R205. -/
  | rlcHL
  /-- `RRC r`, rule R206. -/
  | rrcR (r : Reg8)
  /-- `RRC (HL)`, rule R206. -/
  | rrcHL
  /-- `RL r`, rule R207. -/
  | rlR (r : Reg8)
  /-- `RL (HL)`, rule R207. -/
  | rlHL
  /-- `RR r`, rule R208. -/
  | rrR (r : Reg8)
  /-- `RR (HL)`, rule R208. -/
  | rrHL
  /-- `SLA r`, rule R209. -/
  | slaR (r : Reg8)
  /-- `SLA (HL)`, rule R209. -/
  | slaHL
  /-- `SRA r`, rule R210. -/
  | sraR (r : Reg8)
  /-- `SRA (HL)`, rule R210. -/
  | sraHL
  /-- `SWAP r`, rule R211. -/
  | swapR (r : Reg8)
  /-- `SWAP (HL)`, rule R211. -/
  | swapHL
  /-- `SRL r`, rule R212. -/
  | srlR (r : Reg8)
  /-- `SRL (HL)`, rule R212. -/
  | srlHL
  /-- `BIT b,r`, rule R220. -/
  | bitR (b : BitVec 3) (r : Reg8)
  /-- `BIT b,(HL)`, rule R220. -/
  | bitHL (b : BitVec 3)
  /-- `RES b,r`, rule R221. -/
  | resR (b : BitVec 3) (r : Reg8)
  /-- `RES b,(HL)`, rule R221. -/
  | resHL (b : BitVec 3)
  /-- `SET b,r`, rule R222. -/
  | setR (b : BitVec 3) (r : Reg8)
  /-- `SET b,(HL)`, rule R222. -/
  | setHL (b : BitVec 3)
  /-- `JP nn`, rule R231. -/
  | jpNN (nn : Word)
  /-- `JP cc,nn`, rule R232. -/
  | jpCC (cc : Cond) (nn : Word)
  /-- `JR e`, rule R233. -/
  | jrE (e : Byte)
  /-- `JR cc,e`, rule R234. -/
  | jrCC (cc : Cond) (e : Byte)
  /-- `JP HL`, rule R235. -/
  | jpHL
  /-- `CALL nn`, rule R240. -/
  | callNN (nn : Word)
  /-- `CALL cc,nn`, rule R241. -/
  | callCC (cc : Cond) (nn : Word)
  /-- `RET`, rule R242. -/
  | ret
  /-- `RET cc`, rule R243. -/
  | retCC (cc : Cond)
  /-- `RETI`, rule R244. -/
  | reti
  /-- `RST t`, rule R245. -/
  | rst (t : BitVec 3)
  /-- `unmatched opcode 0xD3`, rule R260. -/
  | unimplD3
  /-- `unmatched opcode 0xDB`, rule R260. -/
  | unimplDB
  /-- `unmatched opcode 0xDD`, rule R260. -/
  | unimplDD
  /-- `unmatched opcode 0xE3`, rule R260. -/
  | unimplE3
  /-- `unmatched opcode 0xE4`, rule R260. -/
  | unimplE4
  /-- `unmatched opcode 0xEB`, rule R260. -/
  | unimplEB
  /-- `unmatched opcode 0xEC`, rule R260. -/
  | unimplEC
  /-- `unmatched opcode 0xED`, rule R260. -/
  | unimplED
  /-- `unmatched opcode 0xF4`, rule R260. -/
  | unimplF4
  /-- `unmatched opcode 0xFC`, rule R260. -/
  | unimplFC
  /-- `unmatched opcode 0xFD`, rule R260. -/
  | unimplFD
  /-- `PREFIX CB`, rule R259. -/
  | prefixCb (op2 : Byte)
deriving DecidableEq, Repr

end Sys2Proof
end

