-- ==== Sys2Proof/Machine/State.lean ====
section
/-! DEFINITION. The whole state of CORE (rules R9, R39, R40) as plain data, the reasons a step can
stop, and the state after reset (rule R360 with the launch of log entries 1 to 3). -/

namespace Sys2Proof.Machine

/-- The seven 8-bit registers (rule R20); the pairs BC, DE, HL are views of them (rule R22). -/
structure Regs where
  b : Byte
  c : Byte
  d : Byte
  e : Byte
  h : Byte
  l : Byte
  a : Byte
deriving DecidableEq, Repr

/-- The four flags, "the only storage of the flags" (rule R21): Zero, Subtract, Half-Carry, Carry. -/
structure Flags where
  z : Bool
  n : Bool
  h : Bool
  c : Bool
deriving DecidableEq, Repr

/-- The memory of 65,536 bytes (rule R41): the listed bytes, addresses strictly rising, none equal to
what an unlisted byte reads as (`Memory.wf`). -/
abbrev Memory := List Host.Cell

/-- One output event `Report(op)` (rules R5, R301): the unmatched opcode and the address it was
fetched from. -/
structure Report where
  opcode : Byte
  addr : Addr
deriving DecidableEq, Repr

/-- The state of CORE: rule R40's table, and the model's own record of its inputs and outputs. -/
structure State where
  /-- A, B, C, D, E, H, L (rule R20). -/
  regs : Regs
  /-- fZ, fN, fH, fC (rule R21). -/
  flags : Flags
  /-- The stack pointer (rule R23). -/
  sp : Word
  /-- The program counter: the address of the next byte to fetch (rule R24). -/
  pc : Word
  /-- `Mem`, with IE, IF, DIV, TIMA, TMA, TAC among its bytes (rules R32 to R38, R41). -/
  mem : Memory
  /-- The cycle counter CYC (rule R27). -/
  cyc : BitVec 64
  /-- The Interrupt Master Enable (rule R28). -/
  ime : Bool
  /-- The DI-pending flag DIP (rule R29). -/
  dip : Bool
  /-- Halt mode HALT (rule R30). -/
  halt : Bool
  /-- The cycle accumulator of DIV, `div_acc` (rule R31). -/
  divAcc : Nat
  /-- The cycle accumulator of TIMA, `tima_acc` (rule R31). -/
  timaAcc : Nat
  /-- TIMA rolled over and its reload is due at the next timer update, `ovf` (rule R31). -/
  ovf : Bool
  /-- The model's own: the `ext_irq` arguments of the ticks to come (rules R5, R304), the next one
  first. When the list is empty the argument is the default 0 of rule R7. Log entry 5. -/
  extIrq : List Byte
  /-- The model's own: the `Report` events raised so far (rule R301), the newest first. No step
  reads it. Log entry 6. -/
  reports : List Report
deriving DecidableEq, Repr

/-- Why the machine stops with a fault: never. "No instruction faults" (rule R10) and "CORE raises no
synchronous exception" (rule R302), so nothing raises one (log entry 15). -/
inductive Fault where
deriving DecidableEq, Repr

/-- Why a step or an interface operation has no meaning. -/
inductive Refusal where
  /-- An instruction with no meaning yet. Raised by no arm of `exec` now. Safe. -/
  | notModelled (mnemonic : String)
  /-- A tick that fetches STOP (0x10): "A model must refuse a tick that fetches 0x10" (rule R252).
  Raised by STOP's meaning only. Safe: the run ends where the spec gives no result. -/
  | stopOpcode
  /-- A bulk load of more than 65,536 bytes "is refused" (rule R75). Raised by `State.load` only, never
  by a step. Safe. -/
  | loadTooLong
deriving DecidableEq, Repr

/-- The state right after reset: rule R360 with the launch of log entries 1, 2 and 3 (registers,
flags, SP and PC 0; no byte of memory listed), and the hidden state 0 as rule R40 gives it. -/
def State.reset : State where
  regs := { b := 0#8, c := 0#8, d := 0#8, e := 0#8, h := 0#8, l := 0#8, a := 0#8 }
  flags := { z := false, n := false, h := false, c := false }
  sp := 0#16
  pc := 0#16
  mem := []
  cyc := 0#64
  ime := false
  dip := false
  halt := false
  divAcc := 0
  timaAcc := 0
  ovf := false
  extIrq := []
  reports := []

end Sys2Proof.Machine
end

