-- ==== Sys2Proof/Machine/Flags.lean ====
section
/-! DEFINITION. Every flag computation of the spec as a function on bytes and words: the 8-bit adder
(rule R150), `addsp` (rule R190), the 16-bit addition (rule R191), the rotate and shift primitives
(rule R200), the decimal adjustment (rule R255), the condition test (rule R230), and the byte view F
(rule R21). Sums and differences are taken over the natural numbers, as the rules write them. -/

namespace Sys2Proof.Machine

/-- The byte view `F = {fZ, fN, fH, fC, 0, 0, 0, 0}` (rule R21; D4). -/
def Flags.toByte (f : Flags) : Byte :=
  BitVec.ofBool f.z ++ BitVec.ofBool f.n ++ BitVec.ofBool f.h ++ BitVec.ofBool f.c ++ 0#4

/-- A write of a byte to F: bits 7 to 4 are kept, bits 3 to 0 discarded (rule R21; D4). -/
def Flags.ofByte (v : Byte) : Flags where
  z := v.getLsbD 7
  n := v.getLsbD 6
  h := v.getLsbD 5
  c := v.getLsbD 4

/-- A result with its half-carry and carry. -/
structure AddResult (w : Nat) where
  value : BitVec w
  half : Bool
  carry : Bool
deriving DecidableEq, Repr

/-- `add8(a, b, cin)` (rule R150). -/
def add8 (a b : Byte) (cin : Bool) : AddResult 8 where
  value := BitVec.ofNat 8 (a.toNat + b.toNat + cin.toNat)
  half := decide (a.toNat % 16 + b.toNat % 16 + cin.toNat > 0xF)
  carry := decide (a.toNat + b.toNat + cin.toNat > 0xFF)

/-- `sub8(a, b, cin)` (rule R150), `cin` the borrow. -/
def sub8 (a b : Byte) (cin : Bool) : AddResult 8 where
  value := BitVec.ofInt 8 ((a.toNat : Int) - (b.toNat : Int) - (cin.toNat : Int))
  half := decide (a.toNat % 16 < b.toNat % 16 + cin.toNat)
  carry := decide (a.toNat < b.toNat + cin.toNat)

/-- `sext_16(e)` (rule R12). -/
def sext16 (e : Byte) : Word := e.signExtend 16

/-- `addsp(sp, e)` (rule R190): the sum takes `e` signed, half-carry and carry take it unsigned. -/
def addSp (sp : Word) (e : Byte) : AddResult 16 where
  value := sp + sext16 e
  half := decide (sp.toNat % 16 + e.toNat % 16 > 0xF)
  carry := decide (sp.toNat % 256 + e.toNat > 0xFF)

/-- The 16-bit addition of `ADD HL,rr` (rule R191): half-carry out of bit 11, carry out of bit 15. -/
def add16 (x y : Word) : AddResult 16 where
  value := BitVec.ofNat 16 (x.toNat + y.toNat)
  half := decide (x.toNat % 4096 + y.toNat % 4096 > 0xFFF)
  carry := decide (x.toNat + y.toNat > 0xFFFF)

/-- A byte and the bit shifted out. -/
structure ShiftResult where
  value : Byte
  out : Bool
deriving DecidableEq, Repr

/-- A bit as a byte. -/
def bitByte (v : Bool) : Byte := if v then 1#8 else 0#8

/-- `rlc(v)` (rule R200). -/
def rlc (v : Byte) : ShiftResult := ⟨(v <<< 1) ||| bitByte (v.getLsbD 7), v.getLsbD 7⟩

/-- `rrc(v)` (rule R200). -/
def rrc (v : Byte) : ShiftResult := ⟨(v >>> 1) ||| (bitByte (v.getLsbD 0) <<< 7), v.getLsbD 0⟩

/-- `rl(v, cin)` (rule R200). -/
def rl (v : Byte) (cin : Bool) : ShiftResult := ⟨(v <<< 1) ||| bitByte cin, v.getLsbD 7⟩

/-- `rr(v, cin)` (rule R200). -/
def rr (v : Byte) (cin : Bool) : ShiftResult := ⟨(v >>> 1) ||| (bitByte cin <<< 7), v.getLsbD 0⟩

/-- `sla(v)` (rule R200). -/
def sla (v : Byte) : ShiftResult := ⟨v <<< 1, v.getLsbD 7⟩

/-- `sra(v)` (rule R200): bit 7 keeps its value. -/
def sra (v : Byte) : ShiftResult := ⟨(v >>> 1) ||| (v &&& 0x80#8), v.getLsbD 0⟩

/-- `srl(v)` (rule R200). -/
def srl (v : Byte) : ShiftResult := ⟨v >>> 1, v.getLsbD 0⟩

/-- `swap(v)` (rules R200, R211): no bit is shifted out, so Carry is 0. -/
def swap (v : Byte) : ShiftResult := ⟨(v <<< 4) ||| (v >>> 4), false⟩

/-- Whether DAA adjusts the low digit (rule R255). -/
def daaLow (a : Byte) (f : Flags) : Bool := f.h || (!f.n && decide (a.toNat % 16 > 9))

/-- Whether DAA adjusts the high digit, which is also the new Carry (rule R255). -/
def daaHigh (a : Byte) (f : Flags) : Bool := f.c || (!f.n && decide (a.toNat > 0x99))

/-- DAA's result (rule R255): `adj` added after an addition, subtracted after a subtraction. -/
def daaValue (a : Byte) (f : Flags) : Byte :=
  let adj := (if daaLow a f then 0x06#8 else 0x00#8) + (if daaHigh a f then 0x60#8 else 0x00#8)
  if f.n then a - adj else a + adj

/-- `cond(cc)` (rule R230): Zero or Carry, never Half-Carry or Subtract. -/
def Flags.holds (f : Flags) (cc : Cond) : Bool :=
  match cc with
  | .nz => !f.z
  | .z => f.z
  | .nc => !f.c
  | .c => f.c

end Sys2Proof.Machine
end

