-- ==== Sys2Proof/WellFormed.lean ====
section
/-! DEFINITION. Which terms of `Instr` are instructions. Every operand type holds exactly the values
its field admits, so the one check is that the bare escape byte is none (rule R90: format PREFIX is
"not an instruction: the first byte of every `CB_OP`"). -/

namespace Sys2Proof

/-- The instruction has an encoding of its own. `prefixCb op2` has none: its two bytes are the
encoding of the secondary-table instruction that `op2` selects (rules R90, R259; log entry 9). -/
def Instr.wellFormed (i : Instr) : Bool :=
  match i with
  | .nop => true
  | .stop _ => true
  | .halt => true
  | .di => true
  | .ei => true
  | .daa => true
  | .cpl => true
  | .scf => true
  | .ccf => true
  | .ldRR _ _ => true
  | .ldRN _ _ => true
  | .ldRHL _ => true
  | .ldHLR _ => true
  | .ldHLN _ => true
  | .ldABC => true
  | .ldADE => true
  | .ldBCA => true
  | .ldDEA => true
  | .ldANN _ => true
  | .ldNNA _ => true
  | .ldhAC => true
  | .ldhCA => true
  | .ldhAN _ => true
  | .ldhNA _ => true
  | .ldAHLI => true
  | .ldAHLD => true
  | .ldHLIA => true
  | .ldHLDA => true
  | .addAR _ => true
  | .addAHL => true
  | .addAN _ => true
  | .adcAR _ => true
  | .adcAHL => true
  | .adcAN _ => true
  | .subAR _ => true
  | .subAHL => true
  | .subAN _ => true
  | .sbcAR _ => true
  | .sbcAHL => true
  | .sbcAN _ => true
  | .andAR _ => true
  | .andAHL => true
  | .andAN _ => true
  | .xorAR _ => true
  | .xorAHL => true
  | .xorAN _ => true
  | .orAR _ => true
  | .orAHL => true
  | .orAN _ => true
  | .cpAR _ => true
  | .cpAHL => true
  | .cpAN _ => true
  | .incR _ => true
  | .incHL => true
  | .decR _ => true
  | .decHL => true
  | .ldPairNN _ _ => true
  | .ldSPHL => true
  | .push _ => true
  | .pop _ => true
  | .ldHLSPE _ => true
  | .ldNNSP _ => true
  | .addHLPair _ => true
  | .addSPE _ => true
  | .incPair _ => true
  | .decPair _ => true
  | .rlca => true
  | .rrca => true
  | .rla => true
  | .rra => true
  | .rlcR _ => true
  | .rlcHL => true
  | .rrcR _ => true
  | .rrcHL => true
  | .rlR _ => true
  | .rlHL => true
  | .rrR _ => true
  | .rrHL => true
  | .slaR _ => true
  | .slaHL => true
  | .sraR _ => true
  | .sraHL => true
  | .swapR _ => true
  | .swapHL => true
  | .srlR _ => true
  | .srlHL => true
  | .bitR _ _ => true
  | .bitHL _ => true
  | .resR _ _ => true
  | .resHL _ => true
  | .setR _ _ => true
  | .setHL _ => true
  | .jpNN _ => true
  | .jpCC _ _ => true
  | .jrE _ => true
  | .jrCC _ _ => true
  | .jpHL => true
  | .callNN _ => true
  | .callCC _ _ => true
  | .ret => true
  | .retCC _ => true
  | .reti => true
  | .rst _ => true
  | .unimplD3 => true
  | .unimplDB => true
  | .unimplDD => true
  | .unimplE3 => true
  | .unimplE4 => true
  | .unimplEB => true
  | .unimplEC => true
  | .unimplED => true
  | .unimplF4 => true
  | .unimplFC => true
  | .unimplFD => true
  | .prefixCb _ => false

end Sys2Proof
end

