-- ==== Sys2Proof/Decode.lean ====
section
/-! DEFINITION. Bytes to instructions and back (spec file 30_encoding.md). The decoder is rule R98's
ordered list of (mask, match) rows and rule R99's secondary table; every byte has a row, so only a
sequence that ends too early is rejected, by name. The encoder is written from the pattern strings. -/

namespace Sys2Proof

/-! ## Codes of the operand fields (rules R92 to R96) -/

/-- Rule R92: 0 = B, 1 = C, 2 = D, 3 = E, 4 = H, 5 = L, 6 = `(HL)`, 7 = A. -/
def Slot.ofCode (k : BitVec 3) : Slot :=
  match k.getLsbD 2, k.getLsbD 1, k.getLsbD 0 with
  | false, false, false => .reg .b
  | false, false, true  => .reg .c
  | false, true,  false => .reg .d
  | false, true,  true  => .reg .e
  | true,  false, false => .reg .h
  | true,  false, true  => .reg .l
  | true,  true,  false => .hl
  | true,  true,  true  => .reg .a

/-- Rule R92. -/
def Reg8.code (r : Reg8) : BitVec 3 :=
  match r with
  | .b => 0#3
  | .c => 1#3
  | .d => 2#3
  | .e => 3#3
  | .h => 4#3
  | .l => 5#3
  | .a => 7#3

/-- Rule R93, table rp. -/
def Pair.ofCode (k : BitVec 2) : Pair :=
  match k.getLsbD 1, k.getLsbD 0 with
  | false, false => .bc
  | false, true  => .de
  | true,  false => .hl
  | true,  true  => .sp

/-- Rule R93, table rp. -/
def Pair.code (p : Pair) : BitVec 2 :=
  match p with
  | .bc => 0#2
  | .de => 1#2
  | .hl => 2#2
  | .sp => 3#2

/-- Rule R93, table rp2. -/
def StackPair.ofCode (k : BitVec 2) : StackPair :=
  match k.getLsbD 1, k.getLsbD 0 with
  | false, false => .bc
  | false, true  => .de
  | true,  false => .hl
  | true,  true  => .af

/-- Rule R93, table rp2. -/
def StackPair.code (q : StackPair) : BitVec 2 :=
  match q with
  | .bc => 0#2
  | .de => 1#2
  | .hl => 2#2
  | .af => 3#2

/-- Rule R94: 0 = NZ, 1 = Z, 2 = NC, 3 = C. -/
def Cond.ofCode (k : BitVec 2) : Cond :=
  match k.getLsbD 1, k.getLsbD 0 with
  | false, false => .nz
  | false, true  => .z
  | true,  false => .nc
  | true,  true  => .c

/-- Rule R94. -/
def Cond.code (cc : Cond) : BitVec 2 :=
  match cc with
  | .nz => 0#2
  | .z  => 1#2
  | .nc => 2#2
  | .c  => 3#2

/-! ## Fields of an opcode byte (rule R91) -/

/-- `y = op[5:3]`. -/
def fieldY (op : Byte) : BitVec 3 := op.extractLsb' 3 3

/-- `z = op[2:0]`. -/
def fieldZ (op : Byte) : BitVec 3 := op.extractLsb' 0 3

/-- `p = op[5:4]`. -/
def fieldP (op : Byte) : BitVec 2 := op.extractLsb' 4 2

/-- The condition code, at `op[4:3]`. -/
def fieldC (op : Byte) : BitVec 2 := op.extractLsb' 3 2

/-! ## Level 2: the secondary table (rules R96, R99) -/

/-- The operation a secondary opcode names by its x and y (rule R96). -/
inductive CbOp where
  | rlc | rrc | rl | rr | sla | sra | swap | srl
  | bit (b : BitVec 3)
  | res (b : BitVec 3)
  | set (b : BitVec 3)
deriving DecidableEq, Repr

/-- Rule R96, block `x = 0`: 0 = RLC, 1 = RRC, 2 = RL, 3 = RR, 4 = SLA, 5 = SRA, 6 = SWAP,
7 = SRL. -/
def CbOp.shiftOfCode (y : BitVec 3) : CbOp :=
  match y.getLsbD 2, y.getLsbD 1, y.getLsbD 0 with
  | false, false, false => .rlc
  | false, false, true  => .rrc
  | false, true,  false => .rl
  | false, true,  true  => .rr
  | true,  false, false => .sla
  | true,  false, true  => .sra
  | true,  true,  false => .swap
  | true,  true,  true  => .srl

/-- Rule R96: x = 0 a rotate or shift, 1 BIT, 2 RES, 3 SET. -/
def CbOp.ofByte (op2 : Byte) : CbOp :=
  match op2.getLsbD 7, op2.getLsbD 6 with
  | false, false => .shiftOfCode (fieldY op2)
  | false, true  => .bit (fieldY op2)
  | true,  false => .res (fieldY op2)
  | true,  true  => .set (fieldY op2)

/-- Rule R99: the instruction of an operation and a location; `(HL)` forms are rows of their own. -/
def CbOp.toInstr (o : CbOp) (x : Slot) : Instr :=
  match o, x with
  | .rlc,   .reg r => .rlcR r
  | .rlc,   .hl    => .rlcHL
  | .rrc,   .reg r => .rrcR r
  | .rrc,   .hl    => .rrcHL
  | .rl,    .reg r => .rlR r
  | .rl,    .hl    => .rlHL
  | .rr,    .reg r => .rrR r
  | .rr,    .hl    => .rrHL
  | .sla,   .reg r => .slaR r
  | .sla,   .hl    => .slaHL
  | .sra,   .reg r => .sraR r
  | .sra,   .hl    => .sraHL
  | .swap,  .reg r => .swapR r
  | .swap,  .hl    => .swapHL
  | .srl,   .reg r => .srlR r
  | .srl,   .hl    => .srlHL
  | .bit b, .reg r => .bitR b r
  | .bit b, .hl    => .bitHL b
  | .res b, .reg r => .resR b r
  | .res b, .hl    => .resHL b
  | .set b, .reg r => .setR b r
  | .set b, .hl    => .setHL b

/-- Rule R99: the instruction of the secondary opcode `op2`. All 256 values have one. -/
def decodeSecondary (op2 : Byte) : Instr :=
  (CbOp.ofByte op2).toInstr (Slot.ofCode (fieldZ op2))

/-! ## Level 1: the primary table (rule R98) -/

/-- One row of rule R98: a byte `op` belongs to it when `op AND mask = pattern`. `build` makes the
instruction from the opcode byte and the two bytes after it. -/
structure DecodeRow where
  mask : Byte
  pattern : Byte
  build : Byte → Byte → Byte → Instr

/-- A row whose instruction is fixed by its opcode byte alone (format `OP`). -/
def rowOp (mask pattern : Byte) (f : Byte → Instr) : DecodeRow := ⟨mask, pattern, fun op _ _ => f op⟩

/-- A row with one operand byte (formats `OP_N`, `OP_E`, rule R97). -/
def rowN (mask pattern : Byte) (f : Byte → Byte → Instr) : DecodeRow :=
  ⟨mask, pattern, fun op n _ => f op n⟩

/-- A row with a 16-bit operand `{byte 2, byte 1}` (format `OP_NN`, rule R97). -/
def rowNN (mask pattern : Byte) (f : Byte → Word → Instr) : DecodeRow :=
  ⟨mask, pattern, fun op l h => f op (join h l)⟩

/-- `INC x` of a location (rows 30 and 33). -/
def incOf (x : Slot) : Instr :=
  match x with
  | .reg r => .incR r
  | .hl    => .incHL

/-- `DEC x` of a location (rows 31 and 34). -/
def decOf (x : Slot) : Instr :=
  match x with
  | .reg r => .decR r
  | .hl    => .decHL

/-- `LD x,n` of a location (rows 32 and 35). -/
def ldNOf (x : Slot) (n : Byte) : Instr :=
  match x with
  | .reg r => .ldRN r n
  | .hl    => .ldHLN n

/-- `LD x,x'` of two locations (rows 3, 36, 37, 38): both `(HL)` is HALT's place (rule R251). -/
def ldOf (x y : Slot) : Instr :=
  match x, y with
  | .reg dst, .reg src => .ldRR dst src
  | .reg dst, .hl      => .ldRHL dst
  | .hl,      .reg src => .ldHLR src
  | .hl,      .hl      => .halt

/-- Rows 39 and 40: the operation y (rule R95: 0 ADD, 1 ADC, 2 SUB, 3 SBC, 4 AND, 5 XOR, 6 OR, 7 CP)
on a location. -/
def aluOf (y : BitVec 3) (x : Slot) : Instr :=
  match y.getLsbD 2, y.getLsbD 1, y.getLsbD 0, x with
  | false, false, false, .reg r => .addAR r
  | false, false, false, .hl    => .addAHL
  | false, false, true,  .reg r => .adcAR r
  | false, false, true,  .hl    => .adcAHL
  | false, true,  false, .reg r => .subAR r
  | false, true,  false, .hl    => .subAHL
  | false, true,  true,  .reg r => .sbcAR r
  | false, true,  true,  .hl    => .sbcAHL
  | true,  false, false, .reg r => .andAR r
  | true,  false, false, .hl    => .andAHL
  | true,  false, true,  .reg r => .xorAR r
  | true,  false, true,  .hl    => .xorAHL
  | true,  true,  false, .reg r => .orAR r
  | true,  true,  false, .hl    => .orAHL
  | true,  true,  true,  .reg r => .cpAR r
  | true,  true,  true,  .hl    => .cpAHL

/-- Row 41: the operation y (rule R95) on an immediate. -/
def aluNOf (y : BitVec 3) (n : Byte) : Instr :=
  match y.getLsbD 2, y.getLsbD 1, y.getLsbD 0 with
  | false, false, false => .addAN n
  | false, false, true  => .adcAN n
  | false, true,  false => .subAN n
  | false, true,  true  => .sbcAN n
  | true,  false, false => .andAN n
  | true,  false, true  => .xorAN n
  | true,  true,  false => .orAN n
  | true,  true,  true  => .cpAN n

/-- Rows 1 to 14 of rule R98. Row 6 goes to level 2, whose opcode is the next byte (rule R259). -/
def rowsControl : List DecodeRow := [
  rowOp 0xFF 0x00 fun _ => .nop,
  rowN  0xFF 0x10 fun _ n => .stop n,
  rowOp 0xFF 0x76 fun _ => .halt,
  rowOp 0xFF 0xF3 fun _ => .di,
  rowOp 0xFF 0xFB fun _ => .ei,
  rowN  0xFF 0xCB fun _ op2 => decodeSecondary op2,
  rowOp 0xFF 0x27 fun _ => .daa,
  rowOp 0xFF 0x2F fun _ => .cpl,
  rowOp 0xFF 0x37 fun _ => .scf,
  rowOp 0xFF 0x3F fun _ => .ccf,
  rowOp 0xFF 0x07 fun _ => .rlca,
  rowOp 0xFF 0x0F fun _ => .rrca,
  rowOp 0xFF 0x17 fun _ => .rla,
  rowOp 0xFF 0x1F fun _ => .rra]

/-- Rows 15 to 29 of rule R98. -/
def rowsLow : List DecodeRow := [
  rowNN 0xFF 0x08 fun _ nn => .ldNNSP nn,
  rowN  0xFF 0x18 fun _ e => .jrE e,
  rowN  0xE7 0x20 fun op e => .jrCC (.ofCode (fieldC op)) e,
  rowOp 0xFF 0x02 fun _ => .ldBCA,
  rowOp 0xFF 0x12 fun _ => .ldDEA,
  rowOp 0xFF 0x22 fun _ => .ldHLIA,
  rowOp 0xFF 0x32 fun _ => .ldHLDA,
  rowOp 0xFF 0x0A fun _ => .ldABC,
  rowOp 0xFF 0x1A fun _ => .ldADE,
  rowOp 0xFF 0x2A fun _ => .ldAHLI,
  rowOp 0xFF 0x3A fun _ => .ldAHLD,
  rowNN 0xCF 0x01 fun op nn => .ldPairNN (.ofCode (fieldP op)) nn,
  rowOp 0xCF 0x09 fun op => .addHLPair (.ofCode (fieldP op)),
  rowOp 0xCF 0x03 fun op => .incPair (.ofCode (fieldP op)),
  rowOp 0xCF 0x0B fun op => .decPair (.ofCode (fieldP op))]

/-- Rows 30 to 41 of rule R98. -/
def rowsMiddle : List DecodeRow := [
  rowOp 0xFF 0x34 fun _ => .incHL,
  rowOp 0xFF 0x35 fun _ => .decHL,
  rowN  0xFF 0x36 fun _ n => .ldHLN n,
  rowOp 0xC7 0x04 fun op => incOf (.ofCode (fieldY op)),
  rowOp 0xC7 0x05 fun op => decOf (.ofCode (fieldY op)),
  rowN  0xC7 0x06 fun op n => ldNOf (.ofCode (fieldY op)) n,
  rowOp 0xF8 0x70 fun op => ldOf .hl (.ofCode (fieldZ op)),
  rowOp 0xC7 0x46 fun op => ldOf (.ofCode (fieldY op)) .hl,
  rowOp 0xC0 0x40 fun op => ldOf (.ofCode (fieldY op)) (.ofCode (fieldZ op)),
  rowOp 0xC7 0x86 fun op => aluOf (fieldY op) .hl,
  rowOp 0xC0 0x80 fun op => aluOf (fieldY op) (.ofCode (fieldZ op)),
  rowN  0xC7 0xC6 fun op n => aluNOf (fieldY op) n]

/-- Rows 42 to 61 of rule R98. -/
def rowsHigh : List DecodeRow := [
  rowOp 0xC7 0xC7 fun op => .rst (fieldY op),
  rowNN 0xFF 0xC3 fun _ nn => .jpNN nn,
  rowOp 0xFF 0xE9 fun _ => .jpHL,
  rowNN 0xE7 0xC2 fun op nn => .jpCC (.ofCode (fieldC op)) nn,
  rowNN 0xFF 0xCD fun _ nn => .callNN nn,
  rowNN 0xE7 0xC4 fun op nn => .callCC (.ofCode (fieldC op)) nn,
  rowOp 0xFF 0xC9 fun _ => .ret,
  rowOp 0xFF 0xD9 fun _ => .reti,
  rowOp 0xE7 0xC0 fun op => .retCC (.ofCode (fieldC op)),
  rowOp 0xCF 0xC5 fun op => .push (.ofCode (fieldP op)),
  rowOp 0xCF 0xC1 fun op => .pop (.ofCode (fieldP op)),
  rowN  0xFF 0xE0 fun _ n => .ldhNA n,
  rowN  0xFF 0xF0 fun _ n => .ldhAN n,
  rowOp 0xFF 0xE2 fun _ => .ldhCA,
  rowOp 0xFF 0xF2 fun _ => .ldhAC,
  rowNN 0xFF 0xEA fun _ nn => .ldNNA nn,
  rowNN 0xFF 0xFA fun _ nn => .ldANN nn,
  rowN  0xFF 0xE8 fun _ e => .addSPE e,
  rowN  0xFF 0xF8 fun _ e => .ldHLSPE e,
  rowOp 0xFF 0xF9 fun _ => .ldSPHL]

/-- Rows 1 to 61 of rule R98, in its order. -/
def primaryRows : List DecodeRow := rowsControl ++ rowsLow ++ rowsMiddle ++ rowsHigh

/-- Row 62 of rule R98: "any other byte". The bytes that reach it are the eleven of rule R100; the
last of them, 0xFD, is what is left. -/
def unmatchedOf (op : Byte) : Instr :=
  if op = 0xD3 then .unimplD3
  else if op = 0xDB then .unimplDB
  else if op = 0xDD then .unimplDD
  else if op = 0xE3 then .unimplE3
  else if op = 0xE4 then .unimplE4
  else if op = 0xEB then .unimplEB
  else if op = 0xEC then .unimplEC
  else if op = 0xED then .unimplED
  else if op = 0xF4 then .unimplF4
  else if op = 0xFC then .unimplFC
  else .unimplFD

/-- Rule R98: a byte takes the first row whose `op AND mask = match`. Total: the instruction that
starts with the bytes `op`, `n1`, `n2` (bytes past its length are not looked at). -/
def decodeBytes (op n1 n2 : Byte) : Instr :=
  match primaryRows.find? fun row => op &&& row.mask == row.pattern with
  | some row => row.build op n1 n2
  | none => unmatchedOf op

/-! ## Lengths (rule R90) -/

/-- The length in bytes of an instruction's encoding (rule R90): by format, `OP` 1, `OP_N`, `OP_E`
and `CB_OP` 2, `OP_NN` 3. The two bytes of `prefixCb` are the escape and the secondary opcode. -/
def Instr.length (i : Instr) : Nat :=
  match i with
  | .nop | .halt | .di | .ei | .daa | .cpl | .scf | .ccf => 1
  | .stop _ => 2
  | .ldRR _ _ | .ldRHL _ | .ldHLR _ | .ldABC | .ldADE | .ldBCA | .ldDEA => 1
  | .ldhAC | .ldhCA | .ldAHLI | .ldAHLD | .ldHLIA | .ldHLDA => 1
  | .ldRN _ _ | .ldHLN _ | .ldhAN _ | .ldhNA _ => 2
  | .ldANN _ | .ldNNA _ => 3
  | .addAR _ | .addAHL | .adcAR _ | .adcAHL | .subAR _ | .subAHL | .sbcAR _ | .sbcAHL => 1
  | .andAR _ | .andAHL | .xorAR _ | .xorAHL | .orAR _ | .orAHL | .cpAR _ | .cpAHL => 1
  | .addAN _ | .adcAN _ | .subAN _ | .sbcAN _ | .andAN _ | .xorAN _ | .orAN _ | .cpAN _ => 2
  | .incR _ | .incHL | .decR _ | .decHL => 1
  | .ldPairNN _ _ | .ldNNSP _ => 3
  | .ldSPHL | .push _ | .pop _ => 1
  | .ldHLSPE _ | .addSPE _ => 2
  | .addHLPair _ | .incPair _ | .decPair _ => 1
  | .rlca | .rrca | .rla | .rra => 1
  | .rlcR _ | .rlcHL | .rrcR _ | .rrcHL | .rlR _ | .rlHL | .rrR _ | .rrHL => 2
  | .slaR _ | .slaHL | .sraR _ | .sraHL | .swapR _ | .swapHL | .srlR _ | .srlHL => 2
  | .bitR _ _ | .bitHL _ | .resR _ _ | .resHL _ | .setR _ _ | .setHL _ => 2
  | .jpNN _ | .jpCC _ _ | .callNN _ | .callCC _ _ => 3
  | .jrE _ | .jrCC _ _ => 2
  | .jpHL | .ret | .retCC _ | .reti | .rst _ => 1
  | .unimplD3 | .unimplDB | .unimplDD | .unimplE3 | .unimplE4 | .unimplEB => 1
  | .unimplEC | .unimplED | .unimplF4 | .unimplFC | .unimplFD => 1
  | .prefixCb _ => 2

/-! ## The decoder on a byte sequence -/

/-- Why a byte sequence is no instruction. -/
inductive DecodeError where
  /-- The sequence is empty. -/
  | noOpcode
  /-- The sequence ends before the instruction does: `need` bytes, of which only `have_` are there. -/
  | truncated (need have_ : Nat)
deriving DecidableEq, Repr

/-- The first instruction of a byte sequence and the bytes after it. Its length is decided by byte 0
alone (rule R90). -/
def decode (bytes : List Byte) : Except DecodeError (Instr × List Byte) :=
  match bytes with
  | [] => .error .noOpcode
  | op :: rest =>
    let need := (decodeBytes op 0#8 0#8).length
    if rest.length + 1 < need then .error (.truncated need (rest.length + 1))
    else .ok (decodeBytes op (rest.getD 0 0#8) (rest.getD 1 0#8), rest.drop (need - 1))

/-! ## The encoder -/

/-- Format `OP_NN`: opcode, low byte, high byte (rules R90, R97). -/
def encodeNN (op : Byte) (nn : Word) : List Byte := [op, loByte nn, hiByte nn]

/-- Format `CB_OP`: the escape byte, then the secondary opcode `pattern code` (rules R90, R96). -/
def encodeCb (pattern : BitVec 5) (z : BitVec 3) : List Byte := [0xCB, pattern ++ z]

/-- The bytes of an instruction, first byte first, from the pattern strings of rule R98's and rule
R99's tables and the Encoding line of each instruction's rule. -/
def encode (i : Instr) : List Byte :=
  match i with
  | .nop => [0b00000000]
  | .stop n => [0b00010000, n]
  | .halt => [0b01110110]
  | .di => [0b11110011]
  | .ei => [0b11111011]
  | .daa => [0b00100111]
  | .cpl => [0b00101111]
  | .scf => [0b00110111]
  | .ccf => [0b00111111]
  | .ldRR dst src => [0b01#2 ++ dst.code ++ src.code]
  | .ldRN dst n => [0b00#2 ++ dst.code ++ 0b110#3, n]
  | .ldRHL dst => [0b01#2 ++ dst.code ++ 0b110#3]
  | .ldHLR src => [0b01110#5 ++ src.code]
  | .ldHLN n => [0b00110110, n]
  | .ldABC => [0b00001010]
  | .ldADE => [0b00011010]
  | .ldBCA => [0b00000010]
  | .ldDEA => [0b00010010]
  | .ldANN nn => encodeNN 0b11111010 nn
  | .ldNNA nn => encodeNN 0b11101010 nn
  | .ldhAC => [0b11110010]
  | .ldhCA => [0b11100010]
  | .ldhAN n => [0b11110000, n]
  | .ldhNA n => [0b11100000, n]
  | .ldAHLI => [0b00101010]
  | .ldAHLD => [0b00111010]
  | .ldHLIA => [0b00100010]
  | .ldHLDA => [0b00110010]
  | .addAR src => [0b10000#5 ++ src.code]
  | .addAHL => [0b10000110]
  | .addAN n => [0b11000110, n]
  | .adcAR src => [0b10001#5 ++ src.code]
  | .adcAHL => [0b10001110]
  | .adcAN n => [0b11001110, n]
  | .subAR src => [0b10010#5 ++ src.code]
  | .subAHL => [0b10010110]
  | .subAN n => [0b11010110, n]
  | .sbcAR src => [0b10011#5 ++ src.code]
  | .sbcAHL => [0b10011110]
  | .sbcAN n => [0b11011110, n]
  | .andAR src => [0b10100#5 ++ src.code]
  | .andAHL => [0b10100110]
  | .andAN n => [0b11100110, n]
  | .xorAR src => [0b10101#5 ++ src.code]
  | .xorAHL => [0b10101110]
  | .xorAN n => [0b11101110, n]
  | .orAR src => [0b10110#5 ++ src.code]
  | .orAHL => [0b10110110]
  | .orAN n => [0b11110110, n]
  | .cpAR src => [0b10111#5 ++ src.code]
  | .cpAHL => [0b10111110]
  | .cpAN n => [0b11111110, n]
  | .incR dst => [0b00#2 ++ dst.code ++ 0b100#3]
  | .incHL => [0b00110100]
  | .decR dst => [0b00#2 ++ dst.code ++ 0b101#3]
  | .decHL => [0b00110101]
  | .ldPairNN p nn => encodeNN (0b00#2 ++ p.code ++ 0b0001#4) nn
  | .ldSPHL => [0b11111001]
  | .push q => [0b11#2 ++ q.code ++ 0b0101#4]
  | .pop q => [0b11#2 ++ q.code ++ 0b0001#4]
  | .ldHLSPE e => [0b11111000, e]
  | .ldNNSP nn => encodeNN 0b00001000 nn
  | .addHLPair p => [0b00#2 ++ p.code ++ 0b1001#4]
  | .addSPE e => [0b11101000, e]
  | .incPair p => [0b00#2 ++ p.code ++ 0b0011#4]
  | .decPair p => [0b00#2 ++ p.code ++ 0b1011#4]
  | .rlca => [0b00000111]
  | .rrca => [0b00001111]
  | .rla => [0b00010111]
  | .rra => [0b00011111]
  | .rlcR r => encodeCb 0b00000 r.code
  | .rlcHL => encodeCb 0b00000 0b110
  | .rrcR r => encodeCb 0b00001 r.code
  | .rrcHL => encodeCb 0b00001 0b110
  | .rlR r => encodeCb 0b00010 r.code
  | .rlHL => encodeCb 0b00010 0b110
  | .rrR r => encodeCb 0b00011 r.code
  | .rrHL => encodeCb 0b00011 0b110
  | .slaR r => encodeCb 0b00100 r.code
  | .slaHL => encodeCb 0b00100 0b110
  | .sraR r => encodeCb 0b00101 r.code
  | .sraHL => encodeCb 0b00101 0b110
  | .swapR r => encodeCb 0b00110 r.code
  | .swapHL => encodeCb 0b00110 0b110
  | .srlR r => encodeCb 0b00111 r.code
  | .srlHL => encodeCb 0b00111 0b110
  | .bitR b r => encodeCb (0b01#2 ++ b) r.code
  | .bitHL b => encodeCb (0b01#2 ++ b) 0b110
  | .resR b r => encodeCb (0b10#2 ++ b) r.code
  | .resHL b => encodeCb (0b10#2 ++ b) 0b110
  | .setR b r => encodeCb (0b11#2 ++ b) r.code
  | .setHL b => encodeCb (0b11#2 ++ b) 0b110
  | .jpNN nn => encodeNN 0b11000011 nn
  | .jpCC cc nn => encodeNN (0b110#3 ++ cc.code ++ 0b010#3) nn
  | .jrE e => [0b00011000, e]
  | .jrCC cc e => [0b001#3 ++ cc.code ++ 0b000#3, e]
  | .jpHL => [0b11101001]
  | .callNN nn => encodeNN 0b11001101 nn
  | .callCC cc nn => encodeNN (0b110#3 ++ cc.code ++ 0b100#3) nn
  | .ret => [0b11001001]
  | .retCC cc => [0b110#3 ++ cc.code ++ 0b000#3]
  | .reti => [0b11011001]
  | .rst t => [0b11#2 ++ t ++ 0b111#3]
  | .unimplD3 => [0b11010011]
  | .unimplDB => [0b11011011]
  | .unimplDD => [0b11011101]
  | .unimplE3 => [0b11100011]
  | .unimplE4 => [0b11100100]
  | .unimplEB => [0b11101011]
  | .unimplEC => [0b11101100]
  | .unimplED => [0b11101101]
  | .unimplF4 => [0b11110100]
  | .unimplFC => [0b11111100]
  | .unimplFD => [0b11111101]
  | .prefixCb op2 => [0b11001011, op2]

/-! ## Words as spec/opcode_table.json numbers them -/

/-- The three bytes (the longest instruction's) of a word of spec/opcode_table.json. A word of 16
bits whose upper byte is the escape is the table's `{byte 0, byte 1}` (rule R104); every other word
has byte 0 in bits 7..0, byte 1 in bits 15..8 and byte 2 in bits 23..16 (log entry 8). -/
def tableBytes (nbits w : Nat) : List Byte :=
  if nbits = 16 ∧ w / 256 % 256 = 0xCB then [0xCB, BitVec.ofNat 8 w, 0]
  else [BitVec.ofNat 8 w, BitVec.ofNat 8 (w / 256), BitVec.ofNat 8 (w / 65536)]

/-- The instruction that the decoder reads from a word of spec/opcode_table.json. -/
def decodeTableWord (nbits w : Nat) : Option Instr :=
  match decode (tableBytes nbits w) with
  | .ok (i, _) => some i
  | .error _ => none

end Sys2Proof
end

