-- ==== Sys2Proof/Machine/Cycles.lean ====
section
/-! DEFINITION. The parameters of rule R7 that have defaults: the cycle amounts (rule R368), the
dispatch cost (rule R310), the cost of a halted tick (rule R326). Fixed here at the spec's defaults
(log entry 4); nothing else in the model holds a cycle amount. -/

namespace Sys2Proof.Machine

/-- `IRQ_DISPATCH_CYCLES` (rule R310; D8). -/
def irqDispatchCycles : Nat := 20

/-- `HALT_TICK_CYCLES` (rule R326; D10). -/
def haltTickCycles : Nat := 4

/-- `CYCLES(form, taken)` (rules R7, R368; D7). `taken` matters for the conditional forms only. STOP
charges nothing, since it is refused; the 4 of the real console is not used (rule R252). The escape
byte has no amount of its own (rule R259). -/
def cycles (i : Instr) (taken : Bool) : Nat :=
  match i with
  | .nop | .halt | .di | .ei | .daa | .cpl | .scf | .ccf => 4
  | .stop _ => 0
  | .ldRR _ _ => 4
  | .ldRN _ _ | .ldRHL _ | .ldHLR _ => 8
  | .ldHLN _ => 12
  | .ldABC | .ldADE | .ldBCA | .ldDEA => 8
  | .ldANN _ | .ldNNA _ => 16
  | .ldhAC | .ldhCA => 8
  | .ldhAN _ | .ldhNA _ => 12
  | .ldAHLI | .ldAHLD | .ldHLIA | .ldHLDA => 8
  | .addAR _ | .adcAR _ | .subAR _ | .sbcAR _ | .andAR _ | .xorAR _ | .orAR _ | .cpAR _ => 4
  | .addAHL | .adcAHL | .subAHL | .sbcAHL | .andAHL | .xorAHL | .orAHL | .cpAHL => 8
  | .addAN _ | .adcAN _ | .subAN _ | .sbcAN _ | .andAN _ | .xorAN _ | .orAN _ | .cpAN _ => 8
  | .incR _ | .decR _ => 4
  | .incHL | .decHL => 12
  | .ldPairNN _ _ => 12
  | .ldSPHL => 8
  | .push _ => 16
  | .pop _ => 12
  | .ldHLSPE _ => 12
  | .ldNNSP _ => 20
  | .addHLPair _ => 8
  | .addSPE _ => 16
  | .incPair _ | .decPair _ => 8
  | .rlca | .rrca | .rla | .rra => 4
  | .rlcR _ | .rrcR _ | .rlR _ | .rrR _ | .slaR _ | .sraR _ | .swapR _ | .srlR _ => 8
  | .rlcHL | .rrcHL | .rlHL | .rrHL | .slaHL | .sraHL | .swapHL | .srlHL => 16
  | .bitR _ _ | .resR _ _ | .setR _ _ => 8
  | .bitHL _ => 12
  | .resHL _ | .setHL _ => 16
  | .jpNN _ => 16
  | .jpCC _ _ => if taken then 16 else 12
  | .jrE _ => 12
  | .jrCC _ _ => if taken then 12 else 8
  | .jpHL => 4
  | .callNN _ => 24
  | .callCC _ _ => if taken then 24 else 12
  | .ret => 16
  | .retCC _ => if taken then 20 else 8
  | .reti => 16
  | .rst _ => 16
  | .unimplD3 | .unimplDB | .unimplDD | .unimplE3 | .unimplE4 | .unimplEB => 0
  | .unimplEC | .unimplED | .unimplF4 | .unimplFC | .unimplFD => 0
  | .prefixCb _ => 0

end Sys2Proof.Machine
end

