-- ==== Sys2Proof/Machine/Ops.lean ====
section
/-! DEFINITION. The named operations over memory, the program counter, the stack and the control
state, which every meaning uses; servicing an interrupt, the machine's one trap entry (rule R308), and
the return from it (rules R242, R244). -/

namespace Sys2Proof.Machine

/-! ## Memory as a list of bytes in canonical form -/

/-- The canonical form: addresses strictly rising and below 65,536 (rule R41), no byte listed that
equals what an unlisted one reads as. -/
abbrev Memory.wf (m : Memory) : Prop :=
  m.Pairwise (fun p q => p.1 < q.1) ∧ ∀ p ∈ m, p.1 < 65536 ∧ p.2 ≠ Config.unlistedByte

/-- The byte at an address. -/
def Memory.byteAt (m : Memory) (k : Nat) : Byte :=
  match m with
  | [] => Config.unlistedByte
  | p :: rest => if p.1 = k then p.2 else Memory.byteAt rest k

/-- The list with nothing listed at an address. -/
def Memory.unlist (m : Memory) (k : Nat) : Memory := m.filter fun p => p.1 != k

/-- The list with a byte put in its place in the order. -/
def Memory.insertByte (m : Memory) (k : Nat) (v : Byte) : Memory :=
  match m with
  | [] => [(k, v)]
  | p :: rest => if k < p.1 then (k, v) :: p :: rest else p :: Memory.insertByte rest k v

/-- The memory with one byte changed, in canonical form again. -/
def Memory.store (m : Memory) (k : Nat) (v : Byte) : Memory :=
  if v = Config.unlistedByte then m.unlist k else (m.unlist k).insertByte k v

/-! ## The two access primitives and their 16-bit forms (rules R60 to R66) -/

/-- `MemRead(addr, 1)` (rule R60): total, unchecked, no side effect. -/
def State.readByte (s : State) (addr : Addr) : Byte := s.mem.byteAt addr.toNat

/-- `MemWrite(addr, 1, v)` (rules R61, R62): total, unchecked, changes that byte and nothing else. -/
def State.writeByte (s : State) (addr : Addr) (v : Byte) : State :=
  { s with mem := s.mem.store addr.toNat v }

/-- `MemRead(addr, 2)` (rules R12, R63, R65): low byte at `addr`, high byte at `addr +16 1`. -/
def State.readWord (s : State) (addr : Addr) : Word := join (s.readByte (addr + 1#16)) (s.readByte addr)

/-- `MemWrite(addr, 2, v)` (rules R12, R63, R66): the low byte first. -/
def State.writeWord (s : State) (addr : Addr) (v : Word) : State :=
  (s.writeByte addr (loByte v)).writeByte (addr + 1#16) (hiByte v)

/-! ## Single pieces of state -/

/-- `PC <- v`. -/
def State.setPc (s : State) (v : Word) : State := { s with pc := v }

/-- `SP <- v`. -/
def State.setSp (s : State) (v : Word) : State := { s with sp := v }

/-- `fZ, fN, fH, fC <- f`. -/
def State.setFlags (s : State) (f : Flags) : State := { s with flags := f }

/-- `IME <- v` (rule R28). -/
def State.setIme (s : State) (v : Bool) : State := { s with ime := v }

/-- `DIP <- v` (rule R29). -/
def State.setDip (s : State) (v : Bool) : State := { s with dip := v }

/-- `HALT <- v` (rule R30). -/
def State.setHalt (s : State) (v : Bool) : State := { s with halt := v }

/-- `Charge(n)`: `CYC <- (CYC + n) mod 2^64` (rules R12, R27). -/
def State.charge (s : State) (n : Nat) : State := { s with cyc := s.cyc + BitVec.ofNat 64 n }

/-- `Report(op)` (rule R301), for the one-byte opcode that PC has just moved past. -/
def State.report (s : State) (op : Byte) : State :=
  { s with reports := ⟨op, s.pc - 1#16⟩ :: s.reports }

/-- The end of an instruction's meaning: `Charge(CYCLES(form, taken))` (rules R7, R300 step 3). -/
def retire (i : Instr) (taken : Bool) (s : State) : Host.Outcome State Fault Refusal :=
  .next (s.charge (cycles i taken))

/-! ## The stack (rule R180) -/

/-- `Push16(v)`: the high byte at SP-1 first, then the low byte at SP-2, then SP down by 2. -/
def State.push16 (s : State) (v : Word) : State :=
  ((s.writeByte (s.sp - 1#16) (hiByte v)).writeByte (s.sp - 2#16) (loByte v)).setSp (s.sp - 2#16)

/-- The value `Pop16()` returns: the low byte at SP, the high byte at SP+1. -/
def State.popValue (s : State) : Word := join (s.readByte (s.sp + 1#16)) (s.readByte s.sp)

/-- What `Pop16()` changes: SP up by 2. -/
def State.popSp (s : State) : State := s.setSp (s.sp + 2#16)

/-! ## The registers that live in memory (rules R32 to R37, R322) -/

/-- Rule R34. -/
def divAddr : Addr := 0xFF04#16
/-- Rule R35. -/
def timaAddr : Addr := 0xFF05#16
/-- Rule R36. -/
def tmaAddr : Addr := 0xFF06#16
/-- Rule R37. -/
def tacAddr : Addr := 0xFF07#16
/-- Rule R33. -/
def ifAddr : Addr := 0xFF0F#16
/-- Rule R32. -/
def ieAddr : Addr := 0xFFFF#16

/-! ## Interrupts (rules R303 to R309) -/

/-- The five interrupt sources (rule R303). -/
inductive IrqSource where
  | vblank | lcd | timer | serial | joypad
deriving DecidableEq, Repr

/-- The bit of a source in IE and IF (rule R303). -/
def IrqSource.bit (i : IrqSource) : Nat :=
  match i with
  | .vblank => 0
  | .lcd => 1
  | .timer => 2
  | .serial => 3
  | .joypad => 4

/-- `VECTOR[i]`, the fixed handler address (rules R303, R309; D6). -/
def IrqSource.vector (i : IrqSource) : Addr :=
  match i with
  | .vblank => 0x0040#16
  | .lcd => 0x0048#16
  | .timer => 0x0050#16
  | .serial => 0x0058#16
  | .joypad => 0x0060#16

/-- The sources in the fixed order of priority, highest first (rule R306). -/
def irqPriority : List IrqSource := [.vblank, .lcd, .timer, .serial, .joypad]

/-- `Service(i)`, the trap entry (rule R308), in its order: IME off, the source's bit of IF cleared, PC
pushed, PC to the handler, the dispatch cost charged, halt mode left. -/
def State.service (s : State) (i : IrqSource) : State :=
  let s1 := s.setIme false
  let s2 := s1.writeByte ifAddr (s1.readByte ifAddr &&& ~~~(1#8 <<< i.bit))
  let s3 := s2.push16 s2.pc
  let s4 := s3.setPc i.vector
  (s4.charge irqDispatchCycles).setHalt false

/-- `PC <- Pop16()`, the return of RET, `RET cc` and RETI (rules R242, R243, R244). -/
def State.returnPc (s : State) : State := s.popSp.setPc s.popValue

/-- `pend = IE & IF`, all 8 bits (rule R305). -/
def State.pending (s : State) : Byte := s.readByte ieAddr &&& s.readByte ifAddr

/-- The source that is serviced when `pend` is pending: the first in priority order whose bit is set
(rules R305, R306). Bits 7 to 5 belong to no source. -/
def firstPending (pend : Byte) : Option IrqSource :=
  irqPriority.find? fun i => pend.getLsbD i.bit

/-- `InterruptController()` (rule R305): the halt wake, then at most one source serviced if IME is 1. -/
def State.interruptController (s : State) : State :=
  let pend := s.pending
  let woken := if s.halt && pend != 0#8 then s.setHalt false else s
  if woken.ime then
    match firstPending pend with
    | some i => woken.service i
    | none => woken
  else woken

/-! ## Inputs and program placement -/

/-- Step 1 of the tick (rules R300, R304): `IF <- IF | (ext_irq & 0x1F)`. -/
def State.acceptIrq (s : State) (ext : Byte) : State :=
  s.writeByte ifAddr (s.readByte ifAddr ||| (ext &&& 0x1F#8))

/-- The `ext_irq` argument of the next tick: the head of the list, or the default 0 (rule R7). -/
def State.nextExtIrq (s : State) : Byte := s.extIrq.headD 0#8

/-- The state whose list starts at the tick after the next. -/
def State.dropExtIrq (s : State) : State := { s with extIrq := s.extIrq.tail }

/-- Bytes stored upward from an address, which wraps (rules R61, R65). -/
def State.writeBytes (s : State) (addr : Addr) (bytes : List Byte) : State :=
  match bytes with
  | [] => s
  | v :: rest => (s.writeByte addr v).writeBytes (addr + 1#16) rest

/-- An instruction placed where the next tick fetches, and halt mode off so that it does fetch. -/
def State.placeAtPc (s : State) (bytes : List Byte) : State :=
  (s.writeBytes s.pc bytes).setHalt false

end Sys2Proof.Machine
end

