-- ==== Sys2Proof/Machine/Operands.lean ====
section
/-! DEFINITION. Every operand form of the spec: registers (rule R20), pair views (rules R22, R93), the
8-bit location `x[i]` (rule R120), and the effective addresses (rule R140). -/

namespace Sys2Proof.Machine

/-- Read of an 8-bit register. -/
def Regs.get (r : Regs) (i : Reg8) : Byte :=
  match i with
  | .b => r.b
  | .c => r.c
  | .d => r.d
  | .e => r.e
  | .h => r.h
  | .l => r.l
  | .a => r.a

/-- Write of an 8-bit register; no other register changes (rule R20). -/
def Regs.set (r : Regs) (i : Reg8) (v : Byte) : Regs :=
  match i with
  | .b => { r with b := v }
  | .c => { r with c := v }
  | .d => { r with d := v }
  | .e => { r with e := v }
  | .h => { r with h := v }
  | .l => { r with l := v }
  | .a => { r with a := v }

/-- The value of a register. -/
def State.reg (s : State) (i : Reg8) : Byte := s.regs.get i

/-- `R <- v` for a register. -/
def State.setReg (s : State) (i : Reg8) (v : Byte) : State := { s with regs := s.regs.set i v }

/-- `BC = {B, C}` (rule R22). -/
def State.bc (s : State) : Word := join (s.reg .b) (s.reg .c)

/-- `DE = {D, E}` (rule R22). -/
def State.de (s : State) : Word := join (s.reg .d) (s.reg .e)

/-- `HL = {H, L}` (rule R22). -/
def State.hl (s : State) : Word := join (s.reg .h) (s.reg .l)

/-- `AF = {A, F}` (rules R21, R22). -/
def State.af (s : State) : Word := join (s.reg .a) s.flags.toByte

/-- The pair setter (rule R22): `v[15:8]` to the high register, `v[7:0]` to the low one. -/
def State.setRegs (s : State) (hi lo : Reg8) (v : Word) : State :=
  (s.setReg hi (hiByte v)).setReg lo (loByte v)

/-- `BC <- v`. -/
def State.setBc (s : State) (v : Word) : State := s.setRegs .b .c v

/-- `DE <- v`. -/
def State.setDe (s : State) (v : Word) : State := s.setRegs .d .e v

/-- `HL <- v`. -/
def State.setHl (s : State) (v : Word) : State := s.setRegs .h .l v

/-- `AF <- v`: F by the rule of R21 (rule R22). -/
def State.setAf (s : State) (v : Word) : State :=
  (s.setReg .a (hiByte v)).setFlags (.ofByte (loByte v))

/-- `rp[p]` (rule R93). -/
def State.pair (s : State) (p : Pair) : Word :=
  match p with
  | .bc => s.bc
  | .de => s.de
  | .hl => s.hl
  | .sp => s.sp

/-- `rp[p] <- v` (rules R93, R181). -/
def State.setPair (s : State) (p : Pair) (v : Word) : State :=
  match p with
  | .bc => s.setBc v
  | .de => s.setDe v
  | .hl => s.setHl v
  | .sp => s.setSp v

/-- `rp2[p]` (rules R93, R183). -/
def State.stackPair (s : State) (q : StackPair) : Word :=
  match q with
  | .bc => s.bc
  | .de => s.de
  | .hl => s.hl
  | .af => s.af

/-- `rp2[p] <- v` (rules R93, R184). -/
def State.setStackPair (s : State) (q : StackPair) (v : Word) : State :=
  match q with
  | .bc => s.setBc v
  | .de => s.setDe v
  | .hl => s.setHl v
  | .af => s.setAf v

/-- Read of `x[i]` (rule R120). -/
def State.slot (s : State) (x : Slot) : Byte :=
  match x with
  | .reg r => s.reg r
  | .hl => s.readByte s.hl

/-- `x[i] <- v` (rule R120): HL is read at the moment of the access. -/
def State.setSlot (s : State) (x : Slot) (v : Byte) : State :=
  match x with
  | .reg r => s.setReg r v
  | .hl => s.writeByte s.hl v

/-- The address `0xFF00 + n` of the `LDH` forms (rules R97, R140). -/
def highPage (n : Byte) : Addr := 0xFF00#16 + n.zeroExtend 16

end Sys2Proof.Machine
end

