-- ==== Sys2Proof/Machine/Alu16.lean ====
section
/-! DEFINITION. The 16-bit arithmetic instructions (spec file 43_alu16.md, rules R190 to R194). -/

namespace Sys2Proof.Machine

/-- `ADD HL,rr`, rule R191: `HL <- HL + rp[p]`, flags `- 0 h c`, carries out of bits 11 and 15. -/
def execAddHLPair (p : Pair) (s : State) : Host.Outcome State Fault Refusal :=
  let r := add16 s.hl (s.pair p)
  retire (.addHLPair p) true ((s.setHl r.value).setFlags ⟨s.flags.z, false, r.half, r.carry⟩)

/-- `ADD SP,e`, rule R192: `(r, h, c) = addsp(SP, e); SP <- r`, flags `0 0 h c`. -/
def execAddSPE (e : Byte) (s : State) : Host.Outcome State Fault Refusal :=
  let r := addSp s.sp e
  retire (.addSPE e) true ((s.setSp r.value).setFlags ⟨false, false, r.half, r.carry⟩)

/-- `INC rr`, rule R193: `rp[p] <- rp[p] +16 1`, no flag. -/
def execIncPair (p : Pair) (s : State) : Host.Outcome State Fault Refusal :=
  retire (.incPair p) true (s.setPair p (s.pair p + 1#16))

/-- `DEC rr`, rule R194: `rp[p] <- rp[p] -16 1`, no flag. -/
def execDecPair (p : Pair) (s : State) : Host.Outcome State Fault Refusal :=
  retire (.decPair p) true (s.setPair p (s.pair p - 1#16))

end Sys2Proof.Machine
end

