-- ==== Sys2Proof/Machine/Alu8.lean ====
section
/-! DEFINITION. The 8-bit arithmetic and logic instructions (spec file 41_alu8.md, rules R150 to
R165): one shared operation for each of the eight on the accumulator, and its three operand forms
(rule R165); INC and DEC of a location. -/

namespace Sys2Proof.Machine

/-! ## The eight operations on the accumulator -/

/-- `ADD A,v`, rule R152: `(r, h, c) = add8(A, v, 0); A <- r`, flags `(r == 0) 0 h c`. -/
def State.addA (s : State) (v : Byte) : State :=
  let r := add8 (s.reg .a) v false
  (s.setReg .a r.value).setFlags ⟨r.value == 0#8, false, r.half, r.carry⟩

/-- `ADC A,v`, rule R153: `(r, h, c) = add8(A, v, C); A <- r`, flags `(r == 0) 0 h c`. -/
def State.adcA (s : State) (v : Byte) : State :=
  let r := add8 (s.reg .a) v s.flags.c
  (s.setReg .a r.value).setFlags ⟨r.value == 0#8, false, r.half, r.carry⟩

/-- `SUB A,v`, rule R154: `(r, h, c) = sub8(A, v, 0); A <- r`, flags `(r == 0) 1 h c`. -/
def State.subA (s : State) (v : Byte) : State :=
  let r := sub8 (s.reg .a) v false
  (s.setReg .a r.value).setFlags ⟨r.value == 0#8, true, r.half, r.carry⟩

/-- `SBC A,v`, rule R155: `(r, h, c) = sub8(A, v, C); A <- r`, flags `(r == 0) 1 h c`. -/
def State.sbcA (s : State) (v : Byte) : State :=
  let r := sub8 (s.reg .a) v s.flags.c
  (s.setReg .a r.value).setFlags ⟨r.value == 0#8, true, r.half, r.carry⟩

/-- `AND A,v`, rule R156: `r = A & v; A <- r`, flags `(r == 0) 0 1 0`. -/
def State.andA (s : State) (v : Byte) : State :=
  let r := s.reg .a &&& v
  (s.setReg .a r).setFlags ⟨r == 0#8, false, true, false⟩

/-- `XOR A,v`, rule R157: `r = A ^ v; A <- r`, flags `(r == 0) 0 0 0`. -/
def State.xorA (s : State) (v : Byte) : State :=
  let r := s.reg .a ^^^ v
  (s.setReg .a r).setFlags ⟨r == 0#8, false, false, false⟩

/-- `OR A,v`, rule R158: `r = A | v; A <- r`, flags `(r == 0) 0 0 0`. -/
def State.orA (s : State) (v : Byte) : State :=
  let r := s.reg .a ||| v
  (s.setReg .a r).setFlags ⟨r == 0#8, false, false, false⟩

/-- `CP A,v`, rule R159: `(r, h, c) = sub8(A, v, 0)`, A not written, flags `(r == 0) 1 h c`. -/
def State.cpA (s : State) (v : Byte) : State :=
  let r := sub8 (s.reg .a) v false
  s.setFlags ⟨r.value == 0#8, true, r.half, r.carry⟩

/-! ## Their operand forms (rule R165) -/

/-- `ADD A,r`, rule R152: `v = x[s]`. -/
def execAddAR (src : Reg8) (s : State) : Host.Outcome State Fault Refusal :=
  retire (.addAR src) true (s.addA (s.reg src))

/-- `ADD A,(HL)`, rule R152: `v = MemRead(HL, 1)`. -/
def execAddAHL (s : State) : Host.Outcome State Fault Refusal :=
  retire .addAHL true (s.addA (s.readByte s.hl))

/-- `ADD A,n`, rule R152: v is the immediate. -/
def execAddAN (n : Byte) (s : State) : Host.Outcome State Fault Refusal :=
  retire (.addAN n) true (s.addA n)

/-- `ADC A,r`, rule R153: `v = x[s]`. -/
def execAdcAR (src : Reg8) (s : State) : Host.Outcome State Fault Refusal :=
  retire (.adcAR src) true (s.adcA (s.reg src))

/-- `ADC A,(HL)`, rule R153: `v = MemRead(HL, 1)`. -/
def execAdcAHL (s : State) : Host.Outcome State Fault Refusal :=
  retire .adcAHL true (s.adcA (s.readByte s.hl))

/-- `ADC A,n`, rule R153: v is the immediate. -/
def execAdcAN (n : Byte) (s : State) : Host.Outcome State Fault Refusal :=
  retire (.adcAN n) true (s.adcA n)

/-- `SUB A,r`, rule R154: `v = x[s]`. -/
def execSubAR (src : Reg8) (s : State) : Host.Outcome State Fault Refusal :=
  retire (.subAR src) true (s.subA (s.reg src))

/-- `SUB A,(HL)`, rule R154: `v = MemRead(HL, 1)`. -/
def execSubAHL (s : State) : Host.Outcome State Fault Refusal :=
  retire .subAHL true (s.subA (s.readByte s.hl))

/-- `SUB A,n`, rule R154: v is the immediate. -/
def execSubAN (n : Byte) (s : State) : Host.Outcome State Fault Refusal :=
  retire (.subAN n) true (s.subA n)

/-- `SBC A,r`, rule R155: `v = x[s]`. -/
def execSbcAR (src : Reg8) (s : State) : Host.Outcome State Fault Refusal :=
  retire (.sbcAR src) true (s.sbcA (s.reg src))

/-- `SBC A,(HL)`, rule R155: `v = MemRead(HL, 1)`. -/
def execSbcAHL (s : State) : Host.Outcome State Fault Refusal :=
  retire .sbcAHL true (s.sbcA (s.readByte s.hl))

/-- `SBC A,n`, rule R155: v is the immediate. -/
def execSbcAN (n : Byte) (s : State) : Host.Outcome State Fault Refusal :=
  retire (.sbcAN n) true (s.sbcA n)

/-- `AND A,r`, rule R156: `v = x[s]`. -/
def execAndAR (src : Reg8) (s : State) : Host.Outcome State Fault Refusal :=
  retire (.andAR src) true (s.andA (s.reg src))

/-- `AND A,(HL)`, rule R156: `v = MemRead(HL, 1)`. -/
def execAndAHL (s : State) : Host.Outcome State Fault Refusal :=
  retire .andAHL true (s.andA (s.readByte s.hl))

/-- `AND A,n`, rule R156: v is the immediate. -/
def execAndAN (n : Byte) (s : State) : Host.Outcome State Fault Refusal :=
  retire (.andAN n) true (s.andA n)

/-- `XOR A,r`, rule R157: `v = x[s]`. -/
def execXorAR (src : Reg8) (s : State) : Host.Outcome State Fault Refusal :=
  retire (.xorAR src) true (s.xorA (s.reg src))

/-- `XOR A,(HL)`, rule R157: `v = MemRead(HL, 1)`. -/
def execXorAHL (s : State) : Host.Outcome State Fault Refusal :=
  retire .xorAHL true (s.xorA (s.readByte s.hl))

/-- `XOR A,n`, rule R157: v is the immediate. -/
def execXorAN (n : Byte) (s : State) : Host.Outcome State Fault Refusal :=
  retire (.xorAN n) true (s.xorA n)

/-- `OR A,r`, rule R158: `v = x[s]`. -/
def execOrAR (src : Reg8) (s : State) : Host.Outcome State Fault Refusal :=
  retire (.orAR src) true (s.orA (s.reg src))

/-- `OR A,(HL)`, rule R158: `v = MemRead(HL, 1)`. -/
def execOrAHL (s : State) : Host.Outcome State Fault Refusal :=
  retire .orAHL true (s.orA (s.readByte s.hl))

/-- `OR A,n`, rule R158: v is the immediate. -/
def execOrAN (n : Byte) (s : State) : Host.Outcome State Fault Refusal :=
  retire (.orAN n) true (s.orA n)

/-- `CP A,r`, rule R159: `v = x[s]`. -/
def execCpAR (src : Reg8) (s : State) : Host.Outcome State Fault Refusal :=
  retire (.cpAR src) true (s.cpA (s.reg src))

/-- `CP A,(HL)`, rule R159: `v = MemRead(HL, 1)`. -/
def execCpAHL (s : State) : Host.Outcome State Fault Refusal :=
  retire .cpAHL true (s.cpA (s.readByte s.hl))

/-- `CP A,n`, rule R159: v is the immediate. -/
def execCpAN (n : Byte) (s : State) : Host.Outcome State Fault Refusal :=
  retire (.cpAN n) true (s.cpA n)

/-! ## INC and DEC of an 8-bit location -/

/-- `INC x`, rules R160, R161: `(r, h, c) = add8(x, 1, 0); x <- r`, flags `(r == 0) 0 h -`. -/
def State.incSlot (s : State) (x : Slot) : State :=
  let r := add8 (s.slot x) 1#8 false
  (s.setSlot x r.value).setFlags ⟨r.value == 0#8, false, r.half, s.flags.c⟩

/-- `DEC x`, rules R162, R163: `(r, h, c) = sub8(x, 1, 0); x <- r`, flags `(r == 0) 1 h -`. -/
def State.decSlot (s : State) (x : Slot) : State :=
  let r := sub8 (s.slot x) 1#8 false
  (s.setSlot x r.value).setFlags ⟨r.value == 0#8, true, r.half, s.flags.c⟩

/-- `INC r`, rule R160. -/
def execIncR (dst : Reg8) (s : State) : Host.Outcome State Fault Refusal :=
  retire (.incR dst) true (s.incSlot (.reg dst))

/-- `INC (HL)`, rule R161: one read, then one write of the same byte. -/
def execIncHL (s : State) : Host.Outcome State Fault Refusal :=
  retire .incHL true (s.incSlot .hl)

/-- `DEC r`, rule R162. -/
def execDecR (dst : Reg8) (s : State) : Host.Outcome State Fault Refusal :=
  retire (.decR dst) true (s.decSlot (.reg dst))

/-- `DEC (HL)`, rule R163: one read, then one write of the same byte. -/
def execDecHL (s : State) : Host.Outcome State Fault Refusal :=
  retire .decHL true (s.decSlot .hl)

end Sys2Proof.Machine
end

