-- ==== Sys2Proof/Machine/Bit.lean ====
section
/-! DEFINITION. Bit test, reset and set (spec file 45_bit.md, rules R220 to R223). -/

namespace Sys2Proof.Machine

/-- `BIT b,x`, rule R220: nothing is written; flags `(x[b] == 0) 0 1 -`. -/
def State.bitTest (s : State) (b : BitVec 3) (x : Slot) : State :=
  s.setFlags ⟨!(s.slot x).getLsbD b.toNat, false, true, s.flags.c⟩

/-- `RES b,x`, rule R221: `x <- x & (255 - (1 << b))`, no flag. -/
def State.bitReset (s : State) (b : BitVec 3) (x : Slot) : State :=
  s.setSlot x (s.slot x &&& (255#8 - (1#8 <<< b.toNat)))

/-- `SET b,x`, rule R222: `x <- x | (1 << b)`, no flag. -/
def State.bitSet (s : State) (b : BitVec 3) (x : Slot) : State :=
  s.setSlot x (s.slot x ||| (1#8 <<< b.toNat))

/-- `BIT b,r`, rule R220. -/
def execBitR (b : BitVec 3) (r : Reg8) (s : State) : Host.Outcome State Fault Refusal :=
  retire (.bitR b r) true (s.bitTest b (.reg r))

/-- `BIT b,(HL)`, rule R220. -/
def execBitHL (b : BitVec 3) (s : State) : Host.Outcome State Fault Refusal :=
  retire (.bitHL b) true (s.bitTest b .hl)

/-- `RES b,r`, rule R221. -/
def execResR (b : BitVec 3) (r : Reg8) (s : State) : Host.Outcome State Fault Refusal :=
  retire (.resR b r) true (s.bitReset b (.reg r))

/-- `RES b,(HL)`, rule R221. -/
def execResHL (b : BitVec 3) (s : State) : Host.Outcome State Fault Refusal :=
  retire (.resHL b) true (s.bitReset b .hl)

/-- `SET b,r`, rule R222. -/
def execSetR (b : BitVec 3) (r : Reg8) (s : State) : Host.Outcome State Fault Refusal :=
  retire (.setR b r) true (s.bitSet b (.reg r))

/-- `SET b,(HL)`, rule R222. -/
def execSetHL (b : BitVec 3) (s : State) : Host.Outcome State Fault Refusal :=
  retire (.setHL b) true (s.bitSet b .hl)

end Sys2Proof.Machine
end

