-- ==== Sys2Proof/Machine/Call.lean ====
section
/-! DEFINITION. Calls, returns and restarts (spec file 47_call_return.md, rules R240 to R245). None
writes a flag. PC is already past the operand bytes, so it is the return address. -/

namespace Sys2Proof.Machine

/-- `Push16(PC); PC <- target`, the common part of rules R240, R241, R245. -/
def State.callTo (s : State) (target : Word) : State := (s.push16 s.pc).setPc target

/-- `CALL nn`, rule R240. -/
def execCallNN (nn : Word) (s : State) : Host.Outcome State Fault Refusal :=
  retire (.callNN nn) true (s.callTo nn)

/-- `CALL cc,nn`, rule R241. -/
def execCallCC (cc : Cond) (nn : Word) (s : State) : Host.Outcome State Fault Refusal :=
  if s.flags.holds cc then retire (.callCC cc nn) true (s.callTo nn)
  else retire (.callCC cc nn) false s

/-- `RET`, rule R242: `PC <- Pop16()`. -/
def execRet (s : State) : Host.Outcome State Fault Refusal :=
  retire .ret true s.returnPc

/-- `RET cc`, rule R243: `if cond(cc) then PC <- Pop16()`. -/
def execRetCC (cc : Cond) (s : State) : Host.Outcome State Fault Refusal :=
  if s.flags.holds cc then retire (.retCC cc) true s.returnPc
  else retire (.retCC cc) false s

/-- `RETI`, rule R244: `PC <- Pop16(); IME <- 1`, at once; DIP is not cleared. -/
def execReti (s : State) : Host.Outcome State Fault Refusal :=
  retire .reti true (s.returnPc.setIme true)

/-- `RST t`, rule R245: `Push16(PC); PC <- 8 * t`. -/
def execRst (t : BitVec 3) (s : State) : Host.Outcome State Fault Refusal :=
  retire (.rst t) true (s.callTo (t.zeroExtend 16 <<< 3))

end Sys2Proof.Machine
end

