-- ==== Sys2Proof/Machine/Jump.lean ====
section
/-! DEFINITION. The jumps (spec file 46_jump.md, rules R230 to R235). None writes a flag. PC is already
past the operand bytes, taken or not (rules R101, R230). -/

namespace Sys2Proof.Machine

/-- `JP nn`, rule R231: `PC <- nn`. -/
def execJpNN (nn : Word) (s : State) : Host.Outcome State Fault Refusal :=
  retire (.jpNN nn) true (s.setPc nn)

/-- `JP cc,nn`, rule R232: `if cond(cc) then PC <- nn`. -/
def execJpCC (cc : Cond) (nn : Word) (s : State) : Host.Outcome State Fault Refusal :=
  if s.flags.holds cc then retire (.jpCC cc nn) true (s.setPc nn)
  else retire (.jpCC cc nn) false s

/-- `JR e`, rule R233: `PC <- PC +16 sext_16(e)`. -/
def execJrE (e : Byte) (s : State) : Host.Outcome State Fault Refusal :=
  retire (.jrE e) true (s.setPc (s.pc + sext16 e))

/-- `JR cc,e`, rule R234: `if cond(cc) then PC <- PC +16 sext_16(e)`. -/
def execJrCC (cc : Cond) (e : Byte) (s : State) : Host.Outcome State Fault Refusal :=
  if s.flags.holds cc then retire (.jrCC cc e) true (s.setPc (s.pc + sext16 e))
  else retire (.jrCC cc e) false s

/-- `JP HL`, rule R235: `PC <- HL`; memory is not read. -/
def execJpHL (s : State) : Host.Outcome State Fault Refusal :=
  retire .jpHL true (s.setPc s.hl)

end Sys2Proof.Machine
end

