-- ==== Sys2Proof/Machine/Ld16.lean ====
section
/-! DEFINITION. The 16-bit transfers (spec file 42_ld16.md, rules R181 to R186). -/

namespace Sys2Proof.Machine

/-- `LD rr,nn`, rule R181: `rp[p] <- nn`. -/
def execLdPairNN (p : Pair) (nn : Word) (s : State) : Host.Outcome State Fault Refusal :=
  retire (.ldPairNN p nn) true (s.setPair p nn)

/-- `LD SP,HL`, rule R182: `SP <- HL`. -/
def execLdSPHL (s : State) : Host.Outcome State Fault Refusal :=
  retire .ldSPHL true (s.setSp s.hl)

/-- `PUSH qq`, rule R183: `Push16(rp2[p])`. -/
def execPush (q : StackPair) (s : State) : Host.Outcome State Fault Refusal :=
  retire (.push q) true (s.push16 (s.stackPair q))

/-- `POP qq`, rule R184: `rp2[p] <- Pop16()`; for AF bits 3 to 0 of the low byte are discarded. -/
def execPop (q : StackPair) (s : State) : Host.Outcome State Fault Refusal :=
  retire (.pop q) true (s.popSp.setStackPair q s.popValue)

/-- `LD HL,SP+e`, rule R185: `(r, h, c) = addsp(SP, e); HL <- r`, flags `0 0 h c`. -/
def execLdHLSPE (e : Byte) (s : State) : Host.Outcome State Fault Refusal :=
  let r := addSp s.sp e
  retire (.ldHLSPE e) true ((s.setHl r.value).setFlags ⟨false, false, r.half, r.carry⟩)

/-- `LD (nn),SP`, rule R186: the low byte at nn, then the high byte at `nn +16 1`. -/
def execLdNNSP (nn : Word) (s : State) : Host.Outcome State Fault Refusal :=
  retire (.ldNNSP nn) true (s.writeWord nn s.sp)

end Sys2Proof.Machine
end

