-- ==== Sys2Proof/Machine/Ld8.lean ====
section
/-! DEFINITION. The 8-bit transfers (spec file 40_ld8.md, rules R121 to R139). None changes a flag,
IME, DIP, HALT or SP. PC is already past the instruction's bytes (rule R101; log entry 7). -/

namespace Sys2Proof.Machine

/-- `LD r,r'`, rule R121: `x[d] <- x[s]`. -/
def execLdRR (dst src : Reg8) (s : State) : Host.Outcome State Fault Refusal :=
  retire (.ldRR dst src) true (s.setReg dst (s.reg src))

/-- `LD r,n`, rule R122: `x[d] <- n`. -/
def execLdRN (dst : Reg8) (n : Byte) (s : State) : Host.Outcome State Fault Refusal :=
  retire (.ldRN dst n) true (s.setReg dst n)

/-- `LD r,(HL)`, rule R123: the address is HL before H or L is written. -/
def execLdRHL (dst : Reg8) (s : State) : Host.Outcome State Fault Refusal :=
  retire (.ldRHL dst) true (s.setReg dst (s.readByte s.hl))

/-- `LD (HL),r`, rule R124: `MemWrite(HL, 1, x[s])`. -/
def execLdHLR (src : Reg8) (s : State) : Host.Outcome State Fault Refusal :=
  retire (.ldHLR src) true (s.writeByte s.hl (s.reg src))

/-- `LD (HL),n`, rule R125: `MemWrite(HL, 1, n)`. -/
def execLdHLN (n : Byte) (s : State) : Host.Outcome State Fault Refusal :=
  retire (.ldHLN n) true (s.writeByte s.hl n)

/-- `LD A,(BC)`, rule R126. -/
def execLdABC (s : State) : Host.Outcome State Fault Refusal :=
  retire .ldABC true (s.setReg .a (s.readByte s.bc))

/-- `LD A,(DE)`, rule R127. -/
def execLdADE (s : State) : Host.Outcome State Fault Refusal :=
  retire .ldADE true (s.setReg .a (s.readByte s.de))

/-- `LD (BC),A`, rule R128. -/
def execLdBCA (s : State) : Host.Outcome State Fault Refusal :=
  retire .ldBCA true (s.writeByte s.bc (s.reg .a))

/-- `LD (DE),A`, rule R129. -/
def execLdDEA (s : State) : Host.Outcome State Fault Refusal :=
  retire .ldDEA true (s.writeByte s.de (s.reg .a))

/-- `LD A,(nn)`, rule R130. -/
def execLdANN (nn : Word) (s : State) : Host.Outcome State Fault Refusal :=
  retire (.ldANN nn) true (s.setReg .a (s.readByte nn))

/-- `LD (nn),A`, rule R131. -/
def execLdNNA (nn : Word) (s : State) : Host.Outcome State Fault Refusal :=
  retire (.ldNNA nn) true (s.writeByte nn (s.reg .a))

/-- `LDH A,(C)`, rule R132: the byte at `0xFF00 + C`. -/
def execLdhAC (s : State) : Host.Outcome State Fault Refusal :=
  retire .ldhAC true (s.setReg .a (s.readByte (highPage (s.reg .c))))

/-- `LDH (C),A`, rule R133. -/
def execLdhCA (s : State) : Host.Outcome State Fault Refusal :=
  retire .ldhCA true (s.writeByte (highPage (s.reg .c)) (s.reg .a))

/-- `LDH A,(n)`, rule R134: the byte at `0xFF00 + n`. -/
def execLdhAN (n : Byte) (s : State) : Host.Outcome State Fault Refusal :=
  retire (.ldhAN n) true (s.setReg .a (s.readByte (highPage n)))

/-- `LDH (n),A`, rule R135. -/
def execLdhNA (n : Byte) (s : State) : Host.Outcome State Fault Refusal :=
  retire (.ldhNA n) true (s.writeByte (highPage n) (s.reg .a))

/-- `LD A,(HL+)`, rule R136: `A <- MemRead(HL, 1); HL <- HL +16 1`. -/
def execLdAHLI (s : State) : Host.Outcome State Fault Refusal :=
  retire .ldAHLI true ((s.setReg .a (s.readByte s.hl)).setHl (s.hl + 1#16))

/-- `LD A,(HL-)`, rule R137: `A <- MemRead(HL, 1); HL <- HL -16 1`. -/
def execLdAHLD (s : State) : Host.Outcome State Fault Refusal :=
  retire .ldAHLD true ((s.setReg .a (s.readByte s.hl)).setHl (s.hl - 1#16))

/-- `LD (HL+),A`, rule R138: `MemWrite(HL, 1, A); HL <- HL +16 1`. -/
def execLdHLIA (s : State) : Host.Outcome State Fault Refusal :=
  retire .ldHLIA true ((s.writeByte s.hl (s.reg .a)).setHl (s.hl + 1#16))

/-- `LD (HL-),A`, rule R139: `MemWrite(HL, 1, A); HL <- HL -16 1`. -/
def execLdHLDA (s : State) : Host.Outcome State Fault Refusal :=
  retire .ldHLDA true ((s.writeByte s.hl (s.reg .a)).setHl (s.hl - 1#16))

end Sys2Proof.Machine
end

