-- ==== Sys2Proof/Machine/Misc.lean ====
section
/-! DEFINITION. Miscellaneous control (spec file 48_misc_control.md, rules R250 to R258, R260): NOP,
HALT, STOP, DI, EI, DAA, CPL, SCF, CCF and the eleven unmatched opcodes. -/

namespace Sys2Proof.Machine

/-- `NOP`, rule R250: nothing but its cycles. -/
def execNop (s : State) : Host.Outcome State Fault Refusal :=
  retire .nop true s

/-- `HALT`, rule R251: `HALT <- 1`. The rest of the tick may leave halt mode again (rule R307). -/
def execHalt (s : State) : Host.Outcome State Fault Refusal :=
  retire .halt true (s.setHalt true)

/-- `STOP`, rule R252: "A model must refuse a tick that fetches 0x10"; the operand byte and the state
do not matter (log entry 12). -/
def execStop (_n : Byte) (_s : State) : Host.Outcome State Fault Refusal :=
  .refused .stopOpcode

/-- `DI`, rule R253: `DIP <- 1`; IME is not changed by the instruction itself. -/
def execDi (s : State) : Host.Outcome State Fault Refusal :=
  retire .di true (s.setDip true)

/-- `EI`, rule R254: `IME <- 1`, at once; DIP is not cleared. -/
def execEi (s : State) : Host.Outcome State Fault Refusal :=
  retire .ei true (s.setIme true)

/-- `DAA`, rule R255: A corrected to packed decimal, flags `(r == 0) - 0 c`. -/
def execDaa (s : State) : Host.Outcome State Fault Refusal :=
  let a := s.reg .a
  let r := daaValue a s.flags
  retire .daa true ((s.setReg .a r).setFlags ⟨r == 0#8, s.flags.n, false, daaHigh a s.flags⟩)

/-- `CPL`, rule R256: `A <- A ^ 0xFF`, flags `- 1 1 -`. -/
def execCpl (s : State) : Host.Outcome State Fault Refusal :=
  retire .cpl true ((s.setReg .a (s.reg .a ^^^ 0xFF#8)).setFlags ⟨s.flags.z, true, true, s.flags.c⟩)

/-- `SCF`, rule R257: flags `- 0 0 1`. -/
def execScf (s : State) : Host.Outcome State Fault Refusal :=
  retire .scf true (s.setFlags ⟨s.flags.z, false, false, true⟩)

/-- `CCF`, rule R258: flags `- 0 0 (not C)`. -/
def execCcf (s : State) : Host.Outcome State Fault Refusal :=
  retire .ccf true (s.setFlags ⟨s.flags.z, false, false, !s.flags.c⟩)

/-! ## The unmatched opcodes (rules R100, R260): a report, and nothing else -/

/-- The unmatched opcode 0xD3, rule R260. -/
def execUnimplD3 (s : State) : Host.Outcome State Fault Refusal :=
  retire .unimplD3 true (s.report 0xD3#8)

/-- The unmatched opcode 0xDB, rule R260. -/
def execUnimplDB (s : State) : Host.Outcome State Fault Refusal :=
  retire .unimplDB true (s.report 0xDB#8)

/-- The unmatched opcode 0xDD, rule R260. -/
def execUnimplDD (s : State) : Host.Outcome State Fault Refusal :=
  retire .unimplDD true (s.report 0xDD#8)

/-- The unmatched opcode 0xE3, rule R260. -/
def execUnimplE3 (s : State) : Host.Outcome State Fault Refusal :=
  retire .unimplE3 true (s.report 0xE3#8)

/-- The unmatched opcode 0xE4, rule R260. -/
def execUnimplE4 (s : State) : Host.Outcome State Fault Refusal :=
  retire .unimplE4 true (s.report 0xE4#8)

/-- The unmatched opcode 0xEB, rule R260. -/
def execUnimplEB (s : State) : Host.Outcome State Fault Refusal :=
  retire .unimplEB true (s.report 0xEB#8)

/-- The unmatched opcode 0xEC, rule R260. -/
def execUnimplEC (s : State) : Host.Outcome State Fault Refusal :=
  retire .unimplEC true (s.report 0xEC#8)

/-- The unmatched opcode 0xED, rule R260. -/
def execUnimplED (s : State) : Host.Outcome State Fault Refusal :=
  retire .unimplED true (s.report 0xED#8)

/-- The unmatched opcode 0xF4, rule R260. -/
def execUnimplF4 (s : State) : Host.Outcome State Fault Refusal :=
  retire .unimplF4 true (s.report 0xF4#8)

/-- The unmatched opcode 0xFC, rule R260. -/
def execUnimplFC (s : State) : Host.Outcome State Fault Refusal :=
  retire .unimplFC true (s.report 0xFC#8)

/-- The unmatched opcode 0xFD, rule R260. -/
def execUnimplFD (s : State) : Host.Outcome State Fault Refusal :=
  retire .unimplFD true (s.report 0xFD#8)

end Sys2Proof.Machine
end

