-- ==== Sys2Proof/Machine/Rotate.lean ====
section
/-! DEFINITION. The rotates and shifts (spec file 44_rotate_shift.md, rules R200 to R214). -/

namespace Sys2Proof.Machine

/-- The accumulator forms, rules R201 to R204, R213: A takes the result, flags `0 0 0 c`; Zero is always
reset. -/
def State.rotateA (s : State) (f : Byte → ShiftResult) : State :=
  let r := f (s.reg .a)
  (s.setReg .a r.value).setFlags ⟨false, false, false, r.out⟩

/-- The secondary-table forms, rules R205 to R212, R214: `v = x[r]` read first, the result written last,
flags `(res == 0) 0 0 c`. -/
def State.shiftSlot (s : State) (x : Slot) (f : Byte → ShiftResult) : State :=
  let r := f (s.slot x)
  (s.setSlot x r.value).setFlags ⟨r.value == 0#8, false, false, r.out⟩

/-- `RLCA`, rule R201. -/
def execRlca (s : State) : Host.Outcome State Fault Refusal :=
  retire .rlca true (s.rotateA rlc)

/-- `RRCA`, rule R202. -/
def execRrca (s : State) : Host.Outcome State Fault Refusal :=
  retire .rrca true (s.rotateA rrc)

/-- `RLA`, rule R203. -/
def execRla (s : State) : Host.Outcome State Fault Refusal :=
  retire .rla true (s.rotateA fun v => rl v s.flags.c)

/-- `RRA`, rule R204. -/
def execRra (s : State) : Host.Outcome State Fault Refusal :=
  retire .rra true (s.rotateA fun v => rr v s.flags.c)

/-- `RLC r`, rule R205. -/
def execRlcR (r : Reg8) (s : State) : Host.Outcome State Fault Refusal :=
  retire (.rlcR r) true (s.shiftSlot (.reg r) rlc)

/-- `RLC (HL)`, rule R205. -/
def execRlcHL (s : State) : Host.Outcome State Fault Refusal :=
  retire .rlcHL true (s.shiftSlot .hl rlc)

/-- `RRC r`, rule R206. -/
def execRrcR (r : Reg8) (s : State) : Host.Outcome State Fault Refusal :=
  retire (.rrcR r) true (s.shiftSlot (.reg r) rrc)

/-- `RRC (HL)`, rule R206. -/
def execRrcHL (s : State) : Host.Outcome State Fault Refusal :=
  retire .rrcHL true (s.shiftSlot .hl rrc)

/-- `RL r`, rule R207. -/
def execRlR (r : Reg8) (s : State) : Host.Outcome State Fault Refusal :=
  retire (.rlR r) true (s.shiftSlot (.reg r) fun v => rl v s.flags.c)

/-- `RL (HL)`, rule R207. -/
def execRlHL (s : State) : Host.Outcome State Fault Refusal :=
  retire .rlHL true (s.shiftSlot .hl fun v => rl v s.flags.c)

/-- `RR r`, rule R208. -/
def execRrR (r : Reg8) (s : State) : Host.Outcome State Fault Refusal :=
  retire (.rrR r) true (s.shiftSlot (.reg r) fun v => rr v s.flags.c)

/-- `RR (HL)`, rule R208. -/
def execRrHL (s : State) : Host.Outcome State Fault Refusal :=
  retire .rrHL true (s.shiftSlot .hl fun v => rr v s.flags.c)

/-- `SLA r`, rule R209. -/
def execSlaR (r : Reg8) (s : State) : Host.Outcome State Fault Refusal :=
  retire (.slaR r) true (s.shiftSlot (.reg r) sla)

/-- `SLA (HL)`, rule R209. -/
def execSlaHL (s : State) : Host.Outcome State Fault Refusal :=
  retire .slaHL true (s.shiftSlot .hl sla)

/-- `SRA r`, rule R210. -/
def execSraR (r : Reg8) (s : State) : Host.Outcome State Fault Refusal :=
  retire (.sraR r) true (s.shiftSlot (.reg r) sra)

/-- `SRA (HL)`, rule R210. -/
def execSraHL (s : State) : Host.Outcome State Fault Refusal :=
  retire .sraHL true (s.shiftSlot .hl sra)

/-- `SWAP r`, rule R211. -/
def execSwapR (r : Reg8) (s : State) : Host.Outcome State Fault Refusal :=
  retire (.swapR r) true (s.shiftSlot (.reg r) swap)

/-- `SWAP (HL)`, rule R211. -/
def execSwapHL (s : State) : Host.Outcome State Fault Refusal :=
  retire .swapHL true (s.shiftSlot .hl swap)

/-- `SRL r`, rule R212. -/
def execSrlR (r : Reg8) (s : State) : Host.Outcome State Fault Refusal :=
  retire (.srlR r) true (s.shiftSlot (.reg r) srl)

/-- `SRL (HL)`, rule R212. -/
def execSrlHL (s : State) : Host.Outcome State Fault Refusal :=
  retire .srlHL true (s.shiftSlot .hl srl)

end Sys2Proof.Machine
end

