-- ==== Sys2Proof/Machine/Prefix.lean ====
section
/-! DEFINITION. The escape byte 0xCB (rule R259): dispatch of the secondary opcode through the table of
rule R99. -/

namespace Sys2Proof.Machine

/-- `PREFIX CB`, rule R259: `op2`, the byte after the escape, goes through the secondary table "to one
of R205 to R212 or R220 to R222", which charges the cycles of the two bytes. PC is past both. -/
def execPrefixCb (op2 : Byte) (s : State) : Host.Outcome State Fault Refusal :=
  match CbOp.ofByte op2, Slot.ofCode (fieldZ op2) with
  | .rlc, .reg r => execRlcR r s
  | .rlc, .hl => execRlcHL s
  | .rrc, .reg r => execRrcR r s
  | .rrc, .hl => execRrcHL s
  | .rl, .reg r => execRlR r s
  | .rl, .hl => execRlHL s
  | .rr, .reg r => execRrR r s
  | .rr, .hl => execRrHL s
  | .sla, .reg r => execSlaR r s
  | .sla, .hl => execSlaHL s
  | .sra, .reg r => execSraR r s
  | .sra, .hl => execSraHL s
  | .swap, .reg r => execSwapR r s
  | .swap, .hl => execSwapHL s
  | .srl, .reg r => execSrlR r s
  | .srl, .hl => execSrlHL s
  | .bit b, .reg r => execBitR b r s
  | .bit b, .hl => execBitHL b s
  | .res b, .reg r => execResR b r s
  | .res b, .hl => execResHL b s
  | .set b, .reg r => execSetR b r s
  | .set b, .hl => execSetHL b s

end Sys2Proof.Machine
end

