-- ==== Sys2Proof/Machine/Dispatch.lean ====
section
/-! DEFINITION. The dispatch: one arm for each constructor of Instr, each a call of its meaning. -/

namespace Sys2Proof.Machine

def exec (i : Instr) (s : State) : Host.Outcome State Fault Refusal :=
  match i with
  | .nop => Sys2Proof.Machine.execNop s
  | .stop n => Sys2Proof.Machine.execStop n s
  | .halt => Sys2Proof.Machine.execHalt s
  | .di => Sys2Proof.Machine.execDi s
  | .ei => Sys2Proof.Machine.execEi s
  | .daa => Sys2Proof.Machine.execDaa s
  | .cpl => Sys2Proof.Machine.execCpl s
  | .scf => Sys2Proof.Machine.execScf s
  | .ccf => Sys2Proof.Machine.execCcf s
  | .ldRR dst src => Sys2Proof.Machine.execLdRR dst src s
  | .ldRN dst n => Sys2Proof.Machine.execLdRN dst n s
  | .ldRHL dst => Sys2Proof.Machine.execLdRHL dst s
  | .ldHLR src => Sys2Proof.Machine.execLdHLR src s
  | .ldHLN n => Sys2Proof.Machine.execLdHLN n s
  | .ldABC => Sys2Proof.Machine.execLdABC s
  | .ldADE => Sys2Proof.Machine.execLdADE s
  | .ldBCA => Sys2Proof.Machine.execLdBCA s
  | .ldDEA => Sys2Proof.Machine.execLdDEA s
  | .ldANN nn => Sys2Proof.Machine.execLdANN nn s
  | .ldNNA nn => Sys2Proof.Machine.execLdNNA nn s
  | .ldhAC => Sys2Proof.Machine.execLdhAC s
  | .ldhCA => Sys2Proof.Machine.execLdhCA s
  | .ldhAN n => Sys2Proof.Machine.execLdhAN n s
  | .ldhNA n => Sys2Proof.Machine.execLdhNA n s
  | .ldAHLI => Sys2Proof.Machine.execLdAHLI s
  | .ldAHLD => Sys2Proof.Machine.execLdAHLD s
  | .ldHLIA => Sys2Proof.Machine.execLdHLIA s
  | .ldHLDA => Sys2Proof.Machine.execLdHLDA s
  | .addAR src => Sys2Proof.Machine.execAddAR src s
  | .addAHL => Sys2Proof.Machine.execAddAHL s
  | .addAN n => Sys2Proof.Machine.execAddAN n s
  | .adcAR src => Sys2Proof.Machine.execAdcAR src s
  | .adcAHL => Sys2Proof.Machine.execAdcAHL s
  | .adcAN n => Sys2Proof.Machine.execAdcAN n s
  | .subAR src => Sys2Proof.Machine.execSubAR src s
  | .subAHL => Sys2Proof.Machine.execSubAHL s
  | .subAN n => Sys2Proof.Machine.execSubAN n s
  | .sbcAR src => Sys2Proof.Machine.execSbcAR src s
  | .sbcAHL => Sys2Proof.Machine.execSbcAHL s
  | .sbcAN n => Sys2Proof.Machine.execSbcAN n s
  | .andAR src => Sys2Proof.Machine.execAndAR src s
  | .andAHL => Sys2Proof.Machine.execAndAHL s
  | .andAN n => Sys2Proof.Machine.execAndAN n s
  | .xorAR src => Sys2Proof.Machine.execXorAR src s
  | .xorAHL => Sys2Proof.Machine.execXorAHL s
  | .xorAN n => Sys2Proof.Machine.execXorAN n s
  | .orAR src => Sys2Proof.Machine.execOrAR src s
  | .orAHL => Sys2Proof.Machine.execOrAHL s
  | .orAN n => Sys2Proof.Machine.execOrAN n s
  | .cpAR src => Sys2Proof.Machine.execCpAR src s
  | .cpAHL => Sys2Proof.Machine.execCpAHL s
  | .cpAN n => Sys2Proof.Machine.execCpAN n s
  | .incR dst => Sys2Proof.Machine.execIncR dst s
  | .incHL => Sys2Proof.Machine.execIncHL s
  | .decR dst => Sys2Proof.Machine.execDecR dst s
  | .decHL => Sys2Proof.Machine.execDecHL s
  | .ldPairNN p nn => Sys2Proof.Machine.execLdPairNN p nn s
  | .ldSPHL => Sys2Proof.Machine.execLdSPHL s
  | .push q => Sys2Proof.Machine.execPush q s
  | .pop q => Sys2Proof.Machine.execPop q s
  | .ldHLSPE e => Sys2Proof.Machine.execLdHLSPE e s
  | .ldNNSP nn => Sys2Proof.Machine.execLdNNSP nn s
  | .addHLPair p => Sys2Proof.Machine.execAddHLPair p s
  | .addSPE e => Sys2Proof.Machine.execAddSPE e s
  | .incPair p => Sys2Proof.Machine.execIncPair p s
  | .decPair p => Sys2Proof.Machine.execDecPair p s
  | .rlca => Sys2Proof.Machine.execRlca s
  | .rrca => Sys2Proof.Machine.execRrca s
  | .rla => Sys2Proof.Machine.execRla s
  | .rra => Sys2Proof.Machine.execRra s
  | .rlcR r => Sys2Proof.Machine.execRlcR r s
  | .rlcHL => Sys2Proof.Machine.execRlcHL s
  | .rrcR r => Sys2Proof.Machine.execRrcR r s
  | .rrcHL => Sys2Proof.Machine.execRrcHL s
  | .rlR r => Sys2Proof.Machine.execRlR r s
  | .rlHL => Sys2Proof.Machine.execRlHL s
  | .rrR r => Sys2Proof.Machine.execRrR r s
  | .rrHL => Sys2Proof.Machine.execRrHL s
  | .slaR r => Sys2Proof.Machine.execSlaR r s
  | .slaHL => Sys2Proof.Machine.execSlaHL s
  | .sraR r => Sys2Proof.Machine.execSraR r s
  | .sraHL => Sys2Proof.Machine.execSraHL s
  | .swapR r => Sys2Proof.Machine.execSwapR r s
  | .swapHL => Sys2Proof.Machine.execSwapHL s
  | .srlR r => Sys2Proof.Machine.execSrlR r s
  | .srlHL => Sys2Proof.Machine.execSrlHL s
  | .bitR b r => Sys2Proof.Machine.execBitR b r s
  | .bitHL b => Sys2Proof.Machine.execBitHL b s
  | .resR b r => Sys2Proof.Machine.execResR b r s
  | .resHL b => Sys2Proof.Machine.execResHL b s
  | .setR b r => Sys2Proof.Machine.execSetR b r s
  | .setHL b => Sys2Proof.Machine.execSetHL b s
  | .jpNN nn => Sys2Proof.Machine.execJpNN nn s
  | .jpCC cc nn => Sys2Proof.Machine.execJpCC cc nn s
  | .jrE e => Sys2Proof.Machine.execJrE e s
  | .jrCC cc e => Sys2Proof.Machine.execJrCC cc e s
  | .jpHL => Sys2Proof.Machine.execJpHL s
  | .callNN nn => Sys2Proof.Machine.execCallNN nn s
  | .callCC cc nn => Sys2Proof.Machine.execCallCC cc nn s
  | .ret => Sys2Proof.Machine.execRet s
  | .retCC cc => Sys2Proof.Machine.execRetCC cc s
  | .reti => Sys2Proof.Machine.execReti s
  | .rst t => Sys2Proof.Machine.execRst t s
  | .unimplD3 => Sys2Proof.Machine.execUnimplD3 s
  | .unimplDB => Sys2Proof.Machine.execUnimplDB s
  | .unimplDD => Sys2Proof.Machine.execUnimplDD s
  | .unimplE3 => Sys2Proof.Machine.execUnimplE3 s
  | .unimplE4 => Sys2Proof.Machine.execUnimplE4 s
  | .unimplEB => Sys2Proof.Machine.execUnimplEB s
  | .unimplEC => Sys2Proof.Machine.execUnimplEC s
  | .unimplED => Sys2Proof.Machine.execUnimplED s
  | .unimplF4 => Sys2Proof.Machine.execUnimplF4 s
  | .unimplFC => Sys2Proof.Machine.execUnimplFC s
  | .unimplFD => Sys2Proof.Machine.execUnimplFD s
  | .prefixCb op2 => Sys2Proof.Machine.execPrefixCb op2 s

end Sys2Proof.Machine
end

