-- ==== Sys2Proof/Machine/Timer.lean ====
section
/-! DEFINITION. The timer (rules R316 to R321): DIV and TIMA driven by the cycles of the instruction
just executed, through two accumulators, with the reload of TIMA one update late. -/

namespace Sys2Proof.Machine

/-- `PERIOD(TAC[1:0])` (rule R321). -/
def timaPeriod (tac : Byte) : Nat :=
  match tac.getLsbD 1, tac.getLsbD 0 with
  | false, false => 1024
  | false, true  => 16
  | true,  false => 64
  | true,  true  => 256

/-- `TAC[2]`, the timer enable (rule R321). -/
def timaEnabled (tac : Byte) : Bool := tac.getLsbD 2

/-- The delayed reload (rules R317, R320): if `ovf` is 1, TIMA takes TMA, IF gets bit 2, `ovf` goes
to 0. -/
def State.timaReload (s : State) : State :=
  if s.ovf then
    let s1 := s.writeByte timaAddr (s.readByte tmaAddr)
    let s2 := s1.writeByte ifAddr (s1.readByte ifAddr ||| 0x04#8)
    { s2 with ovf := false }
  else s

/-- The DIV part of the update (rules R317, R318): the loop that takes 256 from `div_acc` and adds 1 to
DIV runs `div_acc / 256` times, so DIV grows by that many, mod 256 (log entry 13). -/
def State.divCount (s : State) (delta : Nat) : State :=
  let acc := s.divAcc + delta
  let s1 := s.writeByte divAddr (s.readByte divAddr + BitVec.ofNat 8 (acc / 256))
  { s1 with divAcc := acc % 256 }

/-- One increment of TIMA by the timer (rules R317, R319): from 0xFF to 0x00 raises `ovf`. -/
def State.timaTick (s : State) : State :=
  if s.readByte timaAddr = 0xFF#8 then
    { s.writeByte timaAddr 0x00#8 with ovf := true }
  else s.writeByte timaAddr (s.readByte timaAddr + 1#8)

/-- `k` increments of TIMA, one after the other. -/
def State.timaTicks (s : State) (k : Nat) : State :=
  match k with
  | 0 => s
  | n + 1 => s.timaTick.timaTicks n

/-- The TIMA part of the update (rules R317, R319): if enabled, the loop that takes one period from
`tima_acc` and increments TIMA runs `tima_acc / period` times (log entry 13). While disabled, `tima_acc`
is neither increased nor cleared (D18). -/
def State.timaCount (s : State) (delta : Nat) : State :=
  let tac := s.readByte tacAddr
  if timaEnabled tac then
    let acc := s.timaAcc + delta
    let period := timaPeriod tac
    ({ s with timaAcc := acc % period } : State).timaTicks (acc / period)
  else s

/-- `TimerUpdate(before, after)` (rules R316, R317): `delta = (after - before) mod 2^64`; the reload
first, then DIV, then TIMA. -/
def State.timerUpdate (s : State) (before after : BitVec 64) : State :=
  let delta := (after - before).toNat
  (s.timaReload.divCount delta).timaCount delta

end Sys2Proof.Machine
end

