-- ==== Sys2Proof/Machine/Tick.lean ====
section
/-! DEFINITION. The CPU tick (rule R300): external requests, one instruction or one halted charge, the
timer, the resolution of a pending DI, the interrupt controller. -/

namespace Sys2Proof.Machine

/-- The instruction at PC (rules R98, R99, R101): byte by byte from memory, addresses wrapping. -/
def State.instrAtPc (s : State) : Instr :=
  decodeBytes (s.readByte s.pc) (s.readByte (s.pc + 1#16)) (s.readByte (s.pc + 2#16))

/-- PC past an instruction's bytes: one `PC <- PC +16 1` for each byte fetched (rule R101). -/
def State.advance (s : State) (i : Instr) : State := s.setPc (s.pc + BitVec.ofNat 16 i.length)

/-- `the matched instruction is DI` (rule R300 step 3). -/
def isDi (i : Instr) : Bool := i == .di

/-- Step 5 of the tick (rules R300, R311): a pending DI is resolved by a tick that executed an
instruction other than DI. -/
def State.resolveDi (s : State) (executed wasDi : Bool) : State :=
  if s.dip && executed && !wasDi then (s.setIme false).setDip false else s

/-- Steps 4, 5 and 6 of the tick (rule R300). `before` is CYC at the start of the tick. -/
def State.finishTick (s : State) (before : BitVec 64) (executed wasDi : Bool) : State :=
  ((s.timerUpdate before s.cyc).resolveDi executed wasDi).interruptController

/-- Step 3 of the tick while CORE is halted (rules R300, R326): nothing is fetched. -/
def State.haltedCharge (s : State) : State := s.charge haltTickCycles

/-- `Tick(ext_irq)` (rule R300). -/
def tick (ext : Byte) (s : State) : Host.Outcome State Fault Refusal :=
  let s0 := s.acceptIrq ext
  if s0.halt then .next (s0.haltedCharge.finishTick s0.cyc false false)
  else
    match exec s0.instrAtPc (s0.advance s0.instrAtPc) with
    | .next t => .next (t.finishTick s0.cyc true (isDi s0.instrAtPc))
    | .fault f => .fault f
    | .refused r => .refused r

/-! ## The other operations of the interface (rule R5) -/

/-- `Reset(launch)` (rules R360, R40): every OPEN value from the launch, the hidden state 0. -/
def State.launch (l : Launch) : State :=
  l.resetMem.foldl (fun s p => s.writeByte p.1 p.2)
    { State.reset with
      regs := { b := l.resetB, c := l.resetC, d := l.resetD, e := l.resetE, h := l.resetH, l := l.resetL,
                a := l.resetA }
      flags := .ofByte l.resetF
      sp := l.resetSP
      pc := l.resetPC }

/-- `Load(bytes)` (rule R75): the bytes verbatim from address 0; more than 65,536 are refused. Legal
between reset and the first tick only, which its caller sees to (log entry 14). -/
def State.load (s : State) (bytes : List Byte) : Host.Outcome State Fault Refusal :=
  if bytes.length > 65536 then .refused .loadTooLong else .next (s.writeBytes 0#16 bytes)

/-- `Peek(addr)` (rule R76): a read between ticks. -/
def State.peek (s : State) (addr : Addr) : Byte := s.readByte addr

end Sys2Proof.Machine
end

