-- ==== Sys2Proof/Machine/Step.lean ====
section
/-! DEFINITION. One step: one tick with the next of the scheduled `ext_irq` arguments. -/

namespace Sys2Proof.Machine

/-- One tick (rule R300), its argument taken from the state's list of inputs (rule R304; log entry 5). -/
def step (s : State) : Host.Outcome State Fault Refusal := tick s.nextExtIrq s.dropExtIrq

/-- The state with a word of spec/opcode_table.json placed where the next step fetches, and CORE not
halted, so that the next step runs it (log entry 11). -/
def State.withFetchWord (s : State) (nbits w : Nat) : State := s.placeAtPc (tableBytes nbits w)

end Sys2Proof.Machine
end

