-- ==== Sys2Proof/Safety.lean ====
section
/-! DEFINITION. What a reachable state of CORE looks like, when a step has a result, and what it leaves
unchanged, in the terms the statements use. -/

namespace Sys2Proof.Machine

/-- What holds between ticks. Memory is in canonical form; `0 <= div_acc < 256` (rule R31); `tima_acc`
is below the longest period (rules R31, R317, R321); HALT = 1 implies DIP = 0 (rule R326: the tick that
executed HALT resolved DIP). -/
abbrev State.Inv (s : State) : Prop :=
  s.mem.wf ∧ s.divAcc < 256 ∧ s.timaAcc < 1024 ∧ (s.halt = true → s.dip = false)

/-- The next step fetches STOP, the one opcode that is refused (rules R252, R300). The byte is the one
the fetch sees, after step 1 of the tick. -/
abbrev State.fetchesStop (s : State) : Prop :=
  s.halt = false ∧ (s.acceptIrq s.nextExtIrq).readByte s.pc = 0x10#8

/-- A safe step: it has a next state. By rule R10 every step is safe but one that fetches STOP. -/
def SafeStep (s : State) : Prop := ∃ t, step s = .next t

/-- A safe run of `k` steps. -/
def SafeRun (k : Nat) (s : State) : Prop :=
  match k with
  | 0 => True
  | n + 1 => ∃ t, step s = .next t ∧ SafeRun n t

/-! ## What a step or an instruction leaves unchanged -/

/-- Every 8-bit register keeps its value, but for those listed. -/
def KeepsRegs (except : List Reg8) (s t : State) : Prop :=
  ∀ r, r ∉ except → t.reg r = s.reg r

/-- Every byte of memory reads as before, but for the addresses listed. -/
def KeepsBytes (except : List Addr) (s t : State) : Prop :=
  ∀ a, a ∉ except → t.readByte a = s.readByte a

/-- The timer's hidden state is unchanged (rule R31), and so is the model's own record of the
machine's inputs and outputs. -/
def KeepsHidden (s t : State) : Prop :=
  t.divAcc = s.divAcc ∧ t.timaAcc = s.timaAcc ∧ t.ovf = s.ovf ∧ t.extIrq = s.extIrq ∧
    t.reports = s.reports

/-- IME, DIP, HALT (rules R28 to R30) and the hidden state are unchanged. -/
def KeepsControl (s t : State) : Prop :=
  t.ime = s.ime ∧ t.dip = s.dip ∧ t.halt = s.halt ∧ KeepsHidden s t

/-- CYC has grown by `n`, mod 2^64 (rule R27). -/
def Charges (n : Nat) (s t : State) : Prop := t.cyc = s.cyc + BitVec.ofNat 64 n

end Sys2Proof.Machine
end

