-- ==== Sys2Proof/Certificates/Slice0/Obligations.lean ====
section
/-! DEFINITION. The statements for the provers. Each docstring names the rules of spec/ it rests on, and
where a clause rests on a choice of the spec (D<n>) or of the model (a log entry), says so. Cycle
amounts are the defaults of rules R7 and R368 (D7; log entry 4) wherever they stand, handler addresses
those of rule R309 (D6; log entry 4). `exec` starts with PC past all bytes of the instruction, operand
bytes included, which is the model's own (log entry 7). -/

namespace Sys2Proof.Machine

/-! ## Shapes of instructions -/

/-- What every instruction that only moves data keeps: SP, the PC that the fetch left, the control
state; and it costs `n` cycles. -/
def DataOnly (n : Nat) (s t : State) : Prop :=
  t.sp = s.sp ∧ t.pc = s.pc ∧ Charges n s t ∧ KeepsControl s t

/-- `i` puts `v` in register `dst` and changes nothing else. -/
def LoadsReg (i : Instr) (s : State) (dst : Reg8) (v : Byte) (n : Nat) : Prop :=
  ∃ t, exec i s = .next t ∧ t.reg dst = v ∧
    KeepsRegs [dst] s t ∧ t.flags = s.flags ∧ KeepsBytes [] s t ∧ DataOnly n s t

/-- `i` loads A from HL, then moves HL by `step`, and changes nothing else. -/
def LoadsAndMovesHl (i : Instr) (s : State) (step : Word) (n : Nat) : Prop :=
  ∃ t, exec i s = .next t ∧ t.reg .a = s.readByte s.hl ∧ t.hl = s.hl + step ∧
    KeepsRegs [.a, .h, .l] s t ∧ t.flags = s.flags ∧ KeepsBytes [] s t ∧ DataOnly n s t

/-- `i` stores `v` at `a` and changes nothing else. -/
def StoresByte (i : Instr) (s : State) (a : Addr) (v : Byte) (n : Nat) : Prop :=
  ∃ t, exec i s = .next t ∧ t.readByte a = v ∧
    KeepsBytes [a] s t ∧ KeepsRegs [] s t ∧ t.flags = s.flags ∧ DataOnly n s t

/-- `i` stores A at HL, then moves HL by `step`, and changes nothing else. -/
def StoresAndMovesHl (i : Instr) (s : State) (step : Word) (n : Nat) : Prop :=
  ∃ t, exec i s = .next t ∧ t.readByte s.hl = s.reg .a ∧ t.hl = s.hl + step ∧
    KeepsBytes [s.hl] s t ∧ KeepsRegs [.h, .l] s t ∧ t.flags = s.flags ∧ DataOnly n s t

/-- `i` adds `v` and the carry `cin` to A by the laws of rule R150. -/
def AddsToA (i : Instr) (s : State) (v : Byte) (cin : Bool) (n : Nat) : Prop :=
  let a := (s.reg .a).toNat
  let x := v.toNat
  let k := cin.toNat
  ∃ t, exec i s = .next t ∧ (t.reg .a).toNat = (a + x + k) % 256 ∧
    t.flags = { z := decide ((a + x + k) % 256 = 0), n := false,
                h := decide (a % 16 + x % 16 + k > 15), c := decide (a + x + k > 255) } ∧
    KeepsRegs [.a] s t ∧ KeepsBytes [] s t ∧ DataOnly n s t

/-- The flags of the subtraction `a - x - k` (rule R150). -/
def subFlags (a x k : Nat) : Flags where
  z := decide (((a : Int) - x - k) % 256 = 0)
  n := true
  h := decide (a % 16 < x % 16 + k)
  c := decide (a < x + k)

/-- `i` subtracts `v` and the borrow `cin` from A by the laws of rule R150. -/
def SubtractsFromA (i : Instr) (s : State) (v : Byte) (cin : Bool) (n : Nat) : Prop :=
  ∃ t, exec i s = .next t ∧
    ((t.reg .a).toNat : Int) = ((s.reg .a).toNat - v.toNat - cin.toNat) % 256 ∧
    t.flags = subFlags (s.reg .a).toNat v.toNat cin.toNat ∧
    KeepsRegs [.a] s t ∧ KeepsBytes [] s t ∧ DataOnly n s t

/-- `i` compares A with `v`: the flags of the subtraction, A not written. -/
def ComparesWithA (i : Instr) (s : State) (v : Byte) (n : Nat) : Prop :=
  ∃ t, exec i s = .next t ∧ t.flags = subFlags (s.reg .a).toNat v.toNat 0 ∧
    KeepsRegs [] s t ∧ KeepsBytes [] s t ∧ DataOnly n s t

/-- `i` combines A with `v` bit by bit. -/
def CombinesWithA (i : Instr) (s : State) (v : Byte) (f : Bool → Bool → Bool) (half : Bool)
    (n : Nat) : Prop :=
  ∃ t, exec i s = .next t ∧
    (∀ k < 8, (t.reg .a).getLsbD k = f ((s.reg .a).getLsbD k) (v.getLsbD k)) ∧
    t.flags = { z := decide (t.reg .a = 0#8), n := false, h := half, c := false } ∧
    KeepsRegs [.a] s t ∧ KeepsBytes [] s t ∧ DataOnly n s t

/-- `i` writes the number `r` to register `dst` and the flags `f`, and changes nothing else. -/
def ChangesReg (i : Instr) (s : State) (dst : Reg8) (r : Nat) (f : Flags) (n : Nat) : Prop :=
  ∃ t, exec i s = .next t ∧ (t.reg dst).toNat = r ∧ t.flags = f ∧
    KeepsRegs [dst] s t ∧ KeepsBytes [] s t ∧ DataOnly n s t

/-- `i` writes the number `r` to the byte at HL and the flags `f`, and changes nothing else. -/
def ChangesHlByte (i : Instr) (s : State) (r : Nat) (f : Flags) (n : Nat) : Prop :=
  ∃ t, exec i s = .next t ∧ (t.readByte s.hl).toNat = r ∧ t.flags = f ∧
    KeepsBytes [s.hl] s t ∧ KeepsRegs [] s t ∧ DataOnly n s t

/-- `i` writes the flags `f`, and changes nothing else. -/
def ChangesFlags (i : Instr) (s : State) (f : Flags) (n : Nat) : Prop :=
  ∃ t, exec i s = .next t ∧ t.flags = f ∧
    KeepsRegs [] s t ∧ KeepsBytes [] s t ∧ DataOnly n s t

/-- The flags of INC and DEC (rules R160, R162): Carry is kept. -/
def countFlags (s : State) (zero sub half : Bool) : Flags where
  z := zero
  n := sub
  h := half
  c := s.flags.c

/-- The flags of a secondary-table shift (rules R205 to R212). -/
def shiftFlags (r : Nat) (out : Bool) : Flags where
  z := decide (r = 0)
  n := false
  h := false
  c := out

/-- `i` writes `v` to the pair `p` and the flags `f`. A and the other three pairs are kept. -/
def ChangesPair (i : Instr) (s : State) (p : Pair) (v : Nat) (f : Flags) (n : Nat) : Prop :=
  ∃ t, exec i s = .next t ∧ (t.pair p).toNat = v ∧ t.flags = f ∧
    (∀ q, q ≠ p → t.pair q = s.pair q) ∧ t.reg .a = s.reg .a ∧ KeepsBytes [] s t ∧
    t.pc = s.pc ∧ Charges n s t ∧ KeepsControl s t

/-- `i` puts `target` in PC, and changes nothing else. -/
def JumpsTo (i : Instr) (s : State) (target : Int) (n : Nat) : Prop :=
  ∃ t, exec i s = .next t ∧ (t.pc.toNat : Int) = target ∧
    KeepsRegs [] s t ∧ t.flags = s.flags ∧ KeepsBytes [] s t ∧ t.sp = s.sp ∧ Charges n s t ∧
    KeepsControl s t

/-- `i` puts `v` on the stack, high byte at SP-1 and low byte at SP-2, leaves PC at `target`, and
changes nothing else. -/
def PushesAndGoes (i : Instr) (s : State) (v target : Word) (n : Nat) : Prop :=
  ∃ t, exec i s = .next t ∧
    t.readByte (s.sp - 1#16) = hiByte v ∧ t.readByte (s.sp - 2#16) = loByte v ∧
    KeepsBytes [s.sp - 1#16, s.sp - 2#16] s t ∧ t.sp = s.sp - 2#16 ∧ t.pc = target ∧
    KeepsRegs [] s t ∧ t.flags = s.flags ∧ Charges n s t ∧ KeepsControl s t

/-- `i` takes PC from the stack, low byte at SP and high byte at SP+1, leaves IME at `ime`, and
changes nothing else. -/
def PopsPc (i : Instr) (s : State) (ime : Bool) (n : Nat) : Prop :=
  ∃ t, exec i s = .next t ∧
    t.pc.toNat = (s.readByte (s.sp + 1#16)).toNat * 256 + (s.readByte s.sp).toNat ∧
    t.sp = s.sp + 2#16 ∧ t.ime = ime ∧ t.dip = s.dip ∧ t.halt = s.halt ∧
    KeepsRegs [] s t ∧ t.flags = s.flags ∧ KeepsBytes [] s t ∧ Charges n s t ∧ KeepsHidden s t

/-- The test of a condition (rule R230), on Zero and Carry alone. -/
def CondHolds (cc : Cond) (f : Flags) : Prop :=
  match cc with
  | .nz => f.z = false
  | .z => f.z = true
  | .nc => f.c = false
  | .c => f.c = true

/-- `signed(e)` (rule R12). -/
def signedOffset (e : Byte) : Int := if e.toNat < 128 then e.toNat else (e.toNat : Int) - 256

/-! ## Names for parts of a step -/

/-- The state after step 1 of the tick (rule R300): the requests of this tick are in IF. -/
def afterRequests (s : State) : State := s.dropExtIrq.acceptIrq s.nextExtIrq

/-- The instruction that a step fetches if CORE is not halted. -/
def fetched (s : State) : Instr := (afterRequests s).instrAtPc

/-- The state in which a step executes the fetched instruction: PC is past all its bytes, operand bytes
included (log entry 7). -/
def atExecution (s : State) : State := (afterRequests s).setPc (s.pc + BitVec.ofNat 16 (fetched s).length)

/-- The state of a halted step before step 6 of the tick (rules R300, R326): requests, the halted charge,
the timer's update with it. -/
def haltedBeforeController (s : State) : State :=
  let w := (afterRequests s).charge haltTickCycles
  w.timerUpdate s.cyc w.cyc

/-- The state of an executing step before step 6 of the tick (rule R300), `u` being the state that the
instruction left: the timer's update, the resolution of a pending DI. -/
def executedBeforeController (s u : State) : State :=
  (u.timerUpdate s.cyc u.cyc).resolveDi true (decide (fetched s = .di))

/-- Step 6 of the tick (rule R305) took `v` to `t` and serviced a source: one that IME and `IE & IF`
allow in `v`, and `t` is what servicing it makes of `v`. -/
def Serviced (v t : State) : Prop :=
  ∃ i : IrqSource, v.ime = true ∧ firstPending v.pending = some i ∧ t = v.service i

/-- The instructions that write PC (rule R24): jumps, calls, returns, restarts. -/
def isControlFlow (i : Instr) : Bool :=
  match i with
  | .jpNN _ | .jpCC _ _ | .jrE _ | .jrCC _ _ | .jpHL | .callNN _ | .callCC _ _ | .ret => true
  | .retCC _ | .reti | .rst _ => true
  | .nop | .stop _ | .halt | .di | .ei | .daa | .cpl | .scf | .ccf | .ldRR _ _ => false
  | .ldRN _ _ | .ldRHL _ | .ldHLR _ | .ldHLN _ | .ldABC | .ldADE | .ldBCA | .ldDEA => false
  | .ldANN _ | .ldNNA _ | .ldhAC | .ldhCA | .ldhAN _ | .ldhNA _ | .ldAHLI | .ldAHLD => false
  | .ldHLIA | .ldHLDA | .addAR _ | .addAHL | .addAN _ | .adcAR _ | .adcAHL | .adcAN _ => false
  | .subAR _ | .subAHL | .subAN _ | .sbcAR _ | .sbcAHL | .sbcAN _ | .andAR _ | .andAHL => false
  | .andAN _ | .xorAR _ | .xorAHL | .xorAN _ | .orAR _ | .orAHL | .orAN _ | .cpAR _ => false
  | .cpAHL | .cpAN _ | .incR _ | .incHL | .decR _ | .decHL | .ldPairNN _ _ | .ldSPHL => false
  | .push _ | .pop _ | .ldHLSPE _ | .ldNNSP _ | .addHLPair _ | .addSPE _ | .incPair _ => false
  | .decPair _ | .rlca | .rrca | .rla | .rra | .rlcR _ | .rlcHL | .rrcR _ | .rrcHL => false
  | .rlR _ | .rlHL | .rrR _ | .rrHL | .slaR _ | .slaHL | .sraR _ | .sraHL | .swapR _ => false
  | .swapHL | .srlR _ | .srlHL | .bitR _ _ | .bitHL _ | .resR _ _ | .resHL _ | .setR _ _ => false
  | .setHL _ | .unimplD3 | .unimplDB | .unimplDD | .unimplE3 | .unimplE4 | .unimplEB => false
  | .unimplEC | .unimplED | .unimplF4 | .unimplFC | .unimplFD | .prefixCb _ => false

/-- The instructions that write SP (rule R23). -/
def writesSp (i : Instr) : Bool :=
  match i with
  | .ldPairNN p _ | .incPair p | .decPair p => decide (p = .sp)
  | .ldSPHL | .addSPE _ | .push _ | .pop _ | .callNN _ | .callCC _ _ | .rst _ | .ret => true
  | .retCC _ | .reti => true
  | .nop | .stop _ | .halt | .di | .ei | .daa | .cpl | .scf | .ccf | .ldRR _ _ => false
  | .ldRN _ _ | .ldRHL _ | .ldHLR _ | .ldHLN _ | .ldABC | .ldADE | .ldBCA | .ldDEA => false
  | .ldANN _ | .ldNNA _ | .ldhAC | .ldhCA | .ldhAN _ | .ldhNA _ | .ldAHLI | .ldAHLD => false
  | .ldHLIA | .ldHLDA | .addAR _ | .addAHL | .addAN _ | .adcAR _ | .adcAHL | .adcAN _ => false
  | .subAR _ | .subAHL | .subAN _ | .sbcAR _ | .sbcAHL | .sbcAN _ | .andAR _ | .andAHL => false
  | .andAN _ | .xorAR _ | .xorAHL | .xorAN _ | .orAR _ | .orAHL | .orAN _ | .cpAR _ => false
  | .cpAHL | .cpAN _ | .incR _ | .incHL | .decR _ | .decHL | .ldHLSPE _ | .ldNNSP _ => false
  | .addHLPair _ | .rlca | .rrca | .rla | .rra | .rlcR _ | .rlcHL | .rrcR _ | .rrcHL => false
  | .rlR _ | .rlHL | .rrR _ | .rrHL | .slaR _ | .slaHL | .sraR _ | .sraHL | .swapR _ => false
  | .swapHL | .srlR _ | .srlHL | .bitR _ _ | .bitHL _ | .resR _ _ | .resHL _ | .setR _ _ => false
  | .setHL _ | .jpNN _ | .jpCC _ _ | .jrE _ | .jrCC _ _ | .jpHL | .unimplD3 | .unimplDB => false
  | .unimplDD | .unimplE3 | .unimplE4 | .unimplEB | .unimplEC | .unimplED | .unimplF4 => false
  | .unimplFC | .unimplFD | .prefixCb _ => false

/-- Which of Z, N, H, C an instruction writes: the rows and the `-` cells of rule R164's table. -/
def flagWrites (i : Instr) : Bool × Bool × Bool × Bool :=
  match i with
  | .addAR _ | .addAHL | .addAN _ | .adcAR _ | .adcAHL | .adcAN _ => (true, true, true, true)
  | .subAR _ | .subAHL | .subAN _ | .sbcAR _ | .sbcAHL | .sbcAN _ => (true, true, true, true)
  | .andAR _ | .andAHL | .andAN _ | .xorAR _ | .xorAHL | .xorAN _ => (true, true, true, true)
  | .orAR _ | .orAHL | .orAN _ | .cpAR _ | .cpAHL | .cpAN _ => (true, true, true, true)
  | .ldHLSPE _ | .addSPE _ | .rlca | .rrca | .rla | .rra | .rlcR _ => (true, true, true, true)
  | .rlcHL | .rrcR _ | .rrcHL | .rlR _ | .rlHL | .rrR _ | .rrHL => (true, true, true, true)
  | .slaR _ | .slaHL | .sraR _ | .sraHL | .swapR _ | .swapHL | .srlR _ => (true, true, true, true)
  | .srlHL => (true, true, true, true)
  | .incR _ | .incHL | .decR _ | .decHL | .bitR _ _ | .bitHL _ => (true, true, true, false)
  | .scf | .ccf | .addHLPair _ => (false, true, true, true)
  | .daa => (true, false, true, true)
  | .cpl => (false, true, true, false)
  | .pop q => if q = .af then (true, true, true, true) else (false, false, false, false)
  | .prefixCb op2 =>
    if op2.toNat < 64 then (true, true, true, true)
    else if op2.toNat < 128 then (true, true, true, false)
    else (false, false, false, false)
  | .nop | .stop _ | .halt | .di | .ei | .ldRR _ _ | .ldRN _ _ => (false, false, false, false)
  | .ldRHL _ | .ldHLR _ | .ldHLN _ | .ldABC | .ldADE | .ldBCA => (false, false, false, false)
  | .ldDEA | .ldANN _ | .ldNNA _ | .ldhAC | .ldhCA | .ldhAN _ => (false, false, false, false)
  | .ldhNA _ | .ldAHLI | .ldAHLD | .ldHLIA | .ldHLDA => (false, false, false, false)
  | .ldPairNN _ _ | .ldSPHL | .push _ | .ldNNSP _ | .incPair _ => (false, false, false, false)
  | .decPair _ | .resR _ _ | .resHL _ | .setR _ _ | .setHL _ => (false, false, false, false)
  | .jpNN _ | .jpCC _ _ | .jrE _ | .jrCC _ _ | .jpHL | .callNN _ => (false, false, false, false)
  | .callCC _ _ | .ret | .retCC _ | .reti | .rst _ | .unimplD3 => (false, false, false, false)
  | .unimplDB | .unimplDD | .unimplE3 | .unimplE4 | .unimplEB => (false, false, false, false)
  | .unimplEC | .unimplED | .unimplF4 | .unimplFC | .unimplFD => (false, false, false, false)

/-- The timer updates of one tick after another, each with the cycles that elapsed in it. -/
def timerRun (s : State) (elapsed : List Nat) : State :=
  elapsed.foldl (fun s d => s.timerUpdate 0#64 (BitVec.ofNat 64 d)) s

/-- The two-digit number that a byte of packed decimal stands for. -/
def packed (v : Byte) : Nat := v.toNat / 16 * 10 + v.toNat % 16

/-- Both digits are decimal. -/
def isPacked (v : Byte) : Prop := v.toNat / 16 < 10 ∧ v.toNat % 16 < 10

end Sys2Proof.Machine

section

open Sys2Proof Sys2Proof.Machine

/-! ## Bytes and instructions -/

/-- Rules R90 to R100: no bit of an encoding is dropped, whatever follows the instruction. The bit
patterns are general knowledge (D3). -/
def Obligations.DecodeInvertsEncode : Prop :=
  ∀ (i : Instr) (rest : List Byte), i.wellFormed = true → decode (encode i ++ rest) = .ok (i, rest)

/-- Rules R90, R98, R99: the instruction read from three bytes encodes to those of them that it is
made of, so no two byte sequences are one instruction and none falls through to a neighbour's
row. The bit patterns are general knowledge (D3). -/
def Obligations.EncodeInvertsDecode : Prop :=
  ∀ op n1 n2 : Byte,
    (decodeBytes op n1 n2).wellFormed = true ∧
    encode (decodeBytes op n1 n2) = [op, n1, n2].take (decodeBytes op n1 n2).length ∧
    decode [op, n1, n2] =
      .ok (decodeBytes op n1 n2, [op, n1, n2].drop (decodeBytes op n1 n2).length)

/-- Rules R98, R99, R105: words of every family written out from the pattern strings. A sanity
statement. -/
def Obligations.WordsDecodeAsTheSpecWritesThem : Prop :=
  decode [0x78] = .ok (.ldRR .a .b, []) ∧
  decode [0x3A] = .ok (.ldAHLD, []) ∧
  decode [0xEA, 0x23, 0xD1] = .ok (.ldNNA 0xD123, []) ∧
  decode [0x9E] = .ok (.sbcAHL, []) ∧
  decode [0xEE, 0x0F] = .ok (.xorAN 0x0F, []) ∧
  decode [0x31, 0xFE, 0xFF] = .ok (.ldPairNN .sp 0xFFFE, []) ∧
  decode [0xF1] = .ok (.pop .af, []) ∧
  decode [0x29] = .ok (.addHLPair .hl, []) ∧
  decode [0x1F] = .ok (.rra, []) ∧
  decode [0xCB, 0x2E] = .ok (.sraHL, []) ∧
  decode [0xCB, 0x7F] = .ok (.bitR 7 .a, []) ∧
  decode [0xDA, 0x34, 0x12] = .ok (.jpCC .c 0x1234, []) ∧
  decode [0xCF] = .ok (.rst 1, []) ∧
  decode [0x76] = .ok (.halt, []) ∧
  decode [0xFD] = .ok (.unimplFD, [])

/-- Rules R300, R101, R317, R311, R305: when the bytes at PC (after step 1 of the tick) decode to `i`
and CORE is not halted, a step is `exec i`, then the timer's update with the cycles of `i`, the
resolution of a pending DI, the interrupt controller. That `exec i` starts with PC past all bytes of `i`
is the model's own (log entry 7, DEDUCED): by rule R101 PC is past the opcode alone when the execution
unit starts, which then fetches the operand bytes itself. -/
def Obligations.StepRunsTheDecodedInstruction : Prop :=
  ∀ (s : State) (i : Instr) (rest : List Byte),
    s.halt = false →
    decode [(afterRequests s).readByte s.pc, (afterRequests s).readByte (s.pc + 1#16),
      (afterRequests s).readByte (s.pc + 2#16)] = .ok (i, rest) →
    step s =
      match exec i ((afterRequests s).setPc (s.pc + BitVec.ofNat 16 (encode i).length)) with
      | .next t =>
        .next (((t.timerUpdate s.cyc t.cyc).resolveDi true (decide (i = .di))).interruptController)
      | .fault f => .fault f
      | .refused r => .refused r

/-- Rules R10, R252 (D14), R300, R302: a step has a next state unless it fetches STOP, and then it is
refused as STOP, whatever the operand byte and the rest of the state. No step faults. -/
def Obligations.OnlyStopIsRefused : Prop :=
  (∀ (n : Byte) (s : State), exec (.stop n) s = .refused .stopOpcode) ∧
  ∀ s : State,
    (¬ s.fetchesStop → ∃ t, step s = .next t) ∧
    (s.fetchesStop → step s = .refused .stopOpcode)

/-- Rule R259: the escape byte with a secondary opcode runs the instruction whose encoding the two bytes
are, one of the secondary table, and always has a next state. `prefixCb` is the constructor of the
table's row PREFIX_CB (log entry 9). -/
def Obligations.EscapeByteRunsTheSecondaryInstruction : Prop :=
  ∀ (op2 : Byte) (s : State),
    (∀ i : Instr, i.wellFormed = true → encode i = [0xCB#8, op2] →
      exec (.prefixCb op2) s = exec i s) ∧
    (∃ i : Instr, i.wellFormed = true ∧ encode i = [0xCB#8, op2]) ∧
    ∃ t, exec (.prefixCb op2) s = .next t

/-! ## 8-bit transfers -/

/-- Rules R121, R122, R123, R126, R127, R130, R132, R134, R140: result, frame and completion of the
forms that write one register and nothing else. -/
def Obligations.LoadsWriteOneRegister : Prop :=
  ∀ (s : State) (dst r : Reg8) (n : Byte) (nn : Word),
    LoadsReg (.ldRR dst r) s dst (s.reg r) 4 ∧
    LoadsReg (.ldRN dst n) s dst n 8 ∧
    LoadsReg (.ldRHL dst) s dst (s.readByte s.hl) 8 ∧
    LoadsReg .ldABC s .a (s.readByte s.bc) 8 ∧
    LoadsReg .ldADE s .a (s.readByte s.de) 8 ∧
    LoadsReg (.ldANN nn) s .a (s.readByte nn) 16 ∧
    LoadsReg .ldhAC s .a (s.readByte (highPage (s.reg .c))) 8 ∧
    LoadsReg (.ldhAN n) s .a (s.readByte (highPage n)) 12 ∧
    (highPage n).toNat = 0xFF00 + n.toNat

/-- Rules R124, R125, R128, R129, R131, R133, R135, R62: result, frame and completion of the forms that
store one byte. The address may be any, a register's among them. -/
def Obligations.StoresWriteOneByte : Prop :=
  ∀ (s : State) (r : Reg8) (n : Byte) (nn : Word),
    StoresByte (.ldHLR r) s s.hl (s.reg r) 8 ∧
    StoresByte (.ldHLN n) s s.hl n 12 ∧
    StoresByte .ldBCA s s.bc (s.reg .a) 8 ∧
    StoresByte .ldDEA s s.de (s.reg .a) 8 ∧
    StoresByte (.ldNNA nn) s nn (s.reg .a) 16 ∧
    StoresByte .ldhCA s (highPage (s.reg .c)) (s.reg .a) 8 ∧
    StoresByte (.ldhNA n) s (highPage n) (s.reg .a) 12

/-- Rules R136 to R139: the access is at HL before it moves; HL wraps. -/
def Obligations.TransfersThroughHlMoveIt : Prop :=
  ∀ s : State,
    LoadsAndMovesHl .ldAHLI s 1#16 8 ∧
    LoadsAndMovesHl .ldAHLD s (-1#16) 8 ∧
    StoresAndMovesHl .ldHLIA s 1#16 8 ∧
    StoresAndMovesHl .ldHLDA s (-1#16) 8

/-! ## 8-bit arithmetic and logic -/

/-- Rules R150, R152 to R155, R159, R165: the sum or difference and the four flags, over the natural
numbers; the source operand is read before A is written. N is general knowledge (D27). -/
def Obligations.AddSubtractCompare : Prop :=
  ∀ (s : State) (r : Reg8) (n : Byte),
    (AddsToA (.addAR r) s (s.reg r) false 4 ∧ AddsToA .addAHL s (s.readByte s.hl) false 8 ∧
      AddsToA (.addAN n) s n false 8) ∧
    (AddsToA (.adcAR r) s (s.reg r) s.flags.c 4 ∧ AddsToA .adcAHL s (s.readByte s.hl) s.flags.c 8 ∧
      AddsToA (.adcAN n) s n s.flags.c 8) ∧
    (SubtractsFromA (.subAR r) s (s.reg r) false 4 ∧
      SubtractsFromA .subAHL s (s.readByte s.hl) false 8 ∧
      SubtractsFromA (.subAN n) s n false 8) ∧
    (SubtractsFromA (.sbcAR r) s (s.reg r) s.flags.c 4 ∧
      SubtractsFromA .sbcAHL s (s.readByte s.hl) s.flags.c 8 ∧
      SubtractsFromA (.sbcAN n) s n s.flags.c 8) ∧
    (ComparesWithA (.cpAR r) s (s.reg r) 4 ∧ ComparesWithA .cpAHL s (s.readByte s.hl) 8 ∧
      ComparesWithA (.cpAN n) s n 8)

/-- Rules R156, R157, R158, R165: A bit by bit, Z from the result. N, H, C are general knowledge
(D27). -/
def Obligations.LogicWorksBitByBit : Prop :=
  ∀ (s : State) (r : Reg8) (n : Byte),
    (CombinesWithA (.andAR r) s (s.reg r) and true 4 ∧
      CombinesWithA .andAHL s (s.readByte s.hl) and true 8 ∧
      CombinesWithA (.andAN n) s n and true 8) ∧
    (CombinesWithA (.xorAR r) s (s.reg r) xor false 4 ∧
      CombinesWithA .xorAHL s (s.readByte s.hl) xor false 8 ∧
      CombinesWithA (.xorAN n) s n xor false 8) ∧
    (CombinesWithA (.orAR r) s (s.reg r) or false 4 ∧
      CombinesWithA .orAHL s (s.readByte s.hl) or false 8 ∧
      CombinesWithA (.orAN n) s n or false 8)

/-- Rules R160 to R163: the location up or down by 1 mod 256, Carry kept (D27). -/
def Obligations.IncrementAndDecrementOneByte : Prop :=
  ∀ (s : State) (r : Reg8),
    let v := (s.reg r).toNat
    let m := (s.readByte s.hl).toNat
    ChangesReg (.incR r) s r ((v + 1) % 256)
      (countFlags s (decide (v = 255)) false (decide (v % 16 = 15))) 4 ∧
    ChangesHlByte .incHL s ((m + 1) % 256)
      (countFlags s (decide (m = 255)) false (decide (m % 16 = 15))) 12 ∧
    ChangesReg (.decR r) s r ((v + 255) % 256)
      (countFlags s (decide (v = 1)) true (decide (v % 16 = 0))) 4 ∧
    ChangesHlByte .decHL s ((m + 255) % 256)
      (countFlags s (decide (m = 1)) true (decide (m % 16 = 0))) 12

/-! ## 16-bit transfers and arithmetic -/

/-- Rules R181, R182, R186: a pair or SP takes a 16-bit value; SP is stored low byte first (D5, D23),
the second address wrapping. -/
def Obligations.SixteenBitTransfers : Prop :=
  ∀ (s : State) (p : Pair) (nn : Word),
    ChangesPair (.ldPairNN p nn) s p nn.toNat s.flags 12 ∧
    ChangesPair .ldSPHL s .sp s.hl.toNat s.flags 8 ∧
    ∃ t, exec (.ldNNSP nn) s = .next t ∧
      (t.readByte nn).toNat = s.sp.toNat % 256 ∧
      (t.readByte (nn + 1#16)).toNat = s.sp.toNat / 256 ∧
      KeepsBytes [nn, nn + 1#16] s t ∧ KeepsRegs [] s t ∧ t.flags = s.flags ∧ DataOnly 20 s t

/-- Rules R183, R180, R64: the high register at SP-1, the low register (for AF the byte F) at SP-2, SP
down by 2. F is by R21 (D4). -/
def Obligations.PushStoresThePair : Prop :=
  ∀ (s : State) (q : StackPair), PushesAndGoes (.push q) s (s.stackPair q) s.pc 16

/-- Rules R184, R180: the pair takes the byte at SP+1 as its high half and the byte at SP as its low
half; for AF the four flags take bits 7 to 4 of the low byte (D4). -/
def Obligations.PopLoadsThePair : Prop :=
  ∀ (s : State) (q : StackPair),
    let hi := s.readByte (s.sp + 1#16)
    let lo := s.readByte s.sp
    ∃ t, exec (.pop q) s = .next t ∧ t.sp = s.sp + 2#16 ∧
      (match q with
        | .bc => t.reg .b = hi ∧ t.reg .c = lo ∧ KeepsRegs [.b, .c] s t ∧ t.flags = s.flags
        | .de => t.reg .d = hi ∧ t.reg .e = lo ∧ KeepsRegs [.d, .e] s t ∧ t.flags = s.flags
        | .hl => t.reg .h = hi ∧ t.reg .l = lo ∧ KeepsRegs [.h, .l] s t ∧ t.flags = s.flags
        | .af => t.reg .a = hi ∧ KeepsRegs [.a] s t ∧
            t.flags = { z := lo.getLsbD 7, n := lo.getLsbD 6, h := lo.getLsbD 5, c := lo.getLsbD 4 }) ∧
      KeepsBytes [] s t ∧ t.pc = s.pc ∧ Charges 12 s t ∧ KeepsControl s t

/-- Rules R190 to R194, and R185 for `LD HL,SP+e`: the 16-bit sums mod 65536, with the carries out of bits
11 and 15 for `ADD HL,rr` and out of bits 3 and 7 of the low bytes for the SP forms; `LD HL,SP+e` writes
its sum to HL and keeps SP; the counts write no flag. Z and N are general knowledge (D27). -/
def Obligations.SixteenBitArithmetic : Prop :=
  ∀ (s : State) (p : Pair) (e : Byte),
    let x := s.hl.toNat
    let y := (s.pair p).toNat
    let k := s.sp.toNat
    let offsetFlags : Flags :=
      { z := false, n := false, h := decide (k % 16 + e.toNat % 16 > 15),
        c := decide (k % 256 + e.toNat > 255) }
    ChangesPair (.addHLPair p) s .hl ((x + y) % 65536)
      { z := s.flags.z, n := false, h := decide (x % 4096 + y % 4096 > 4095),
        c := decide (x + y > 65535) } 8 ∧
    ChangesPair (.addSPE e) s .sp (((k : Int) + signedOffset e) % 65536).toNat offsetFlags 16 ∧
    ChangesPair (.ldHLSPE e) s .hl (((k : Int) + signedOffset e) % 65536).toNat offsetFlags 12 ∧
    ChangesPair (.incPair p) s p ((y + 1) % 65536) s.flags 8 ∧
    ChangesPair (.decPair p) s p ((y + 65535) % 65536) s.flags 8

/-! ## Rotates, shifts, bits -/

/-- Rules R201 to R204, R213: Z always reset (D15), C the bit rotated out. N is general knowledge. -/
def Obligations.AccumulatorRotates : Prop :=
  ∀ s : State,
    let v := (s.reg .a).toNat
    let k := s.flags.c.toNat
    let flags (out : Bool) : Flags := { z := false, n := false, h := false, c := out }
    ChangesReg .rlca s .a (v * 2 % 256 + v / 128) (flags (decide (v ≥ 128))) 4 ∧
    ChangesReg .rrca s .a (v / 2 + v % 2 * 128) (flags (decide (v % 2 = 1))) 4 ∧
    ChangesReg .rla s .a (v * 2 % 256 + k) (flags (decide (v ≥ 128))) 4 ∧
    ChangesReg .rra s .a (v / 2 + k * 128) (flags (decide (v % 2 = 1))) 4

/-- Rules R200, R205 to R212, R214, the register forms: Z from the result, C the bit shifted out. The
three shifts, SWAP, N and H are general knowledge (D27). -/
def Obligations.ShiftsOfARegister : Prop :=
  ∀ (s : State) (r : Reg8),
    let v := (s.reg r).toNat
    let k := s.flags.c.toNat
    let changes (i : Instr) (w : Nat) (out : Bool) : Prop := ChangesReg i s r w (shiftFlags w out) 8
    changes (.rlcR r) (v * 2 % 256 + v / 128) (decide (v ≥ 128)) ∧
    changes (.rrcR r) (v / 2 + v % 2 * 128) (decide (v % 2 = 1)) ∧
    changes (.rlR r) (v * 2 % 256 + k) (decide (v ≥ 128)) ∧
    changes (.rrR r) (v / 2 + k * 128) (decide (v % 2 = 1)) ∧
    changes (.slaR r) (v * 2 % 256) (decide (v ≥ 128)) ∧
    changes (.sraR r) (v / 2 + v / 128 * 128) (decide (v % 2 = 1)) ∧
    changes (.swapR r) (v % 16 * 16 + v / 16) false ∧
    changes (.srlR r) (v / 2) (decide (v % 2 = 1))

/-- Rules R200, R205 to R212, R214, the `(HL)` forms: one byte read and written at HL. The three shifts,
SWAP, N and H are general knowledge (D27). -/
def Obligations.ShiftsOfTheByteAtHl : Prop :=
  ∀ s : State,
    let v := (s.readByte s.hl).toNat
    let k := s.flags.c.toNat
    let changes (i : Instr) (w : Nat) (out : Bool) : Prop := ChangesHlByte i s w (shiftFlags w out) 16
    changes .rlcHL (v * 2 % 256 + v / 128) (decide (v ≥ 128)) ∧
    changes .rrcHL (v / 2 + v % 2 * 128) (decide (v % 2 = 1)) ∧
    changes .rlHL (v * 2 % 256 + k) (decide (v ≥ 128)) ∧
    changes .rrHL (v / 2 + k * 128) (decide (v % 2 = 1)) ∧
    changes .slaHL (v * 2 % 256) (decide (v ≥ 128)) ∧
    changes .sraHL (v / 2 + v / 128 * 128) (decide (v % 2 = 1)) ∧
    changes .swapHL (v % 16 * 16 + v / 16) false ∧
    changes .srlHL (v / 2) (decide (v % 2 = 1))

/-- Rules R220 to R222: BIT writes flags only; RES and SET change one bit of the location and no flag.
N, H, C of BIT are general knowledge (D27). -/
def Obligations.BitInstructions : Prop :=
  ∀ (s : State) (b : BitVec 3) (r : Reg8),
    let p := 2 ^ b.toNat
    let v := (s.reg r).toNat
    let m := (s.readByte s.hl).toNat
    let tested (x : Nat) : Flags :=
      { z := decide (x / p % 2 = 0), n := false, h := true, c := s.flags.c }
    ChangesFlags (.bitR b r) s (tested v) 8 ∧
    ChangesFlags (.bitHL b) s (tested m) 12 ∧
    ChangesReg (.resR b r) s r (v - v / p % 2 * p) s.flags 8 ∧
    ChangesHlByte (.resHL b) s (m - m / p % 2 * p) s.flags 16 ∧
    ChangesReg (.setR b r) s r (v + (1 - v / p % 2) * p) s.flags 8 ∧
    ChangesHlByte (.setHL b) s (m + (1 - m / p % 2) * p) s.flags 16

/-! ## Control flow -/

/-- Rules R230 to R235: PC is the target if the condition holds, and stays past the operand bytes if
not, at the smaller cost; a relative target is PC past the operand plus the signed offset. PC is past the
operand bytes when `exec` starts (log entry 7). -/
def Obligations.JumpsSetPcOnly : Prop :=
  ∀ (s : State) (cc : Cond) (nn : Word) (e : Byte),
    let relative : Int := ((s.pc.toNat : Int) + signedOffset e) % 65536
    JumpsTo (.jpNN nn) s nn.toNat 16 ∧
    JumpsTo .jpHL s ((s.reg .h).toNat * 256 + (s.reg .l).toNat) 4 ∧
    JumpsTo (.jrE e) s relative 12 ∧
    (CondHolds cc s.flags → JumpsTo (.jpCC cc nn) s nn.toNat 16 ∧ JumpsTo (.jrCC cc e) s relative 12) ∧
    (¬ CondHolds cc s.flags → JumpsTo (.jpCC cc nn) s s.pc.toNat 12 ∧ JumpsTo (.jrCC cc e) s s.pc.toNat 8)

/-- Rules R240, R241, R245, R180: PC past the operand bytes (where `exec` starts, log entry 7) goes on the
stack, then PC is the target; a call not taken changes neither SP nor memory. The restart targets but
0x0008 are general knowledge. -/
def Obligations.CallsPushTheReturnAddress : Prop :=
  ∀ (s : State) (cc : Cond) (nn : Word) (t : BitVec 3),
    PushesAndGoes (.callNN nn) s s.pc nn 24 ∧
    PushesAndGoes (.rst t) s s.pc (BitVec.ofNat 16 (8 * t.toNat)) 16 ∧
    (CondHolds cc s.flags → PushesAndGoes (.callCC cc nn) s s.pc nn 24) ∧
    (¬ CondHolds cc s.flags → JumpsTo (.callCC cc nn) s s.pc.toNat 12)

/-- Rules R242 to R244: PC from the stack; RETI alone sets IME, at once (D11); a return not taken
changes nothing but CYC. -/
def Obligations.ReturnsPopPc : Prop :=
  ∀ (s : State) (cc : Cond),
    PopsPc .ret s s.ime 16 ∧
    PopsPc .reti s true 16 ∧
    (CondHolds cc s.flags → PopsPc (.retCC cc) s s.ime 20) ∧
    (¬ CondHolds cc s.flags → JumpsTo (.retCC cc) s s.pc.toNat 8)

/-! ## Miscellaneous control -/

/-- Rules R250, R251, R253, R254: each of HALT, DI, EI writes its one bit, NOP none. EI is immediate
(D11). -/
def Obligations.ControlInstructionsSetOneBit : Prop :=
  ∀ s : State, ∀ c ∈ ([(.nop, s.ime, s.dip, s.halt), (.halt, s.ime, s.dip, true),
      (.di, s.ime, true, s.halt), (.ei, true, s.dip, s.halt)] : List (Instr × Bool × Bool × Bool)),
    ∃ t, exec c.1 s = .next t ∧ (t.ime, t.dip, t.halt) = c.2 ∧
      KeepsRegs [] s t ∧ t.flags = s.flags ∧ KeepsBytes [] s t ∧ t.sp = s.sp ∧ t.pc = s.pc ∧
      Charges 4 s t ∧ KeepsHidden s t

/-- Rules R255 to R258, all general knowledge (D26, D27): DAA by its two tests, CPL, SCF, CCF. -/
def Obligations.AccumulatorAndCarryAdjustments : Prop :=
  ∀ s : State,
    let a := (s.reg .a).toNat
    let f := s.flags
    let low := f.h = true ∨ (f.n = false ∧ a % 16 > 9)
    let high := f.c = true ∨ (f.n = false ∧ a > 0x99)
    let adj : Int := (if low then 6 else 0) + (if high then 0x60 else 0)
    let r := ((if f.n then (a : Int) - adj else a + adj) % 256).toNat
    ChangesReg .daa s .a r { z := decide (r = 0), n := f.n, h := false, c := decide high } 4 ∧
    ChangesReg .cpl s .a (255 - a) { z := f.z, n := true, h := true, c := f.c } 4 ∧
    ChangesFlags .scf s { z := f.z, n := false, h := false, c := true } 4 ∧
    ChangesFlags .ccf s { z := f.z, n := false, h := false, c := !f.c } 4

/-- Rule R255's purpose, over all packed-decimal operands: ADD or ADC and then DAA is decimal addition,
SUB or SBC and then DAA is decimal subtraction, with Carry the decimal carry or borrow. -/
def Obligations.DaaCorrectsPackedDecimal : Prop :=
  ∀ (s : State) (v : Byte),
    isPacked (s.reg .a) → isPacked v →
    (∃ t u, exec (.adcAN v) s = .next t ∧ exec .daa t = .next u ∧
      isPacked (u.reg .a) ∧
      packed (u.reg .a) + 100 * u.flags.c.toNat =
        packed (s.reg .a) + packed v + s.flags.c.toNat) ∧
    (∃ t u, exec (.sbcAN v) s = .next t ∧ exec .daa t = .next u ∧
      isPacked (u.reg .a) ∧
      packed (u.reg .a) + packed v + s.flags.c.toNat =
        packed (s.reg .a) + 100 * u.flags.c.toNat)

/-- Rules R100 (D30), R260 (D13), R301: an unmatched opcode is reported and changes nothing, CYC
included. The report holds the opcode and the address it was fetched from (the spec's list, U28); that
State keeps the reports is the model's own (log entry 6). -/
def Obligations.UnmatchedOpcodesOnlyReport : Prop :=
  ∀ s : State, ∀ c ∈ ([(.unimplD3, 0xD3), (.unimplDB, 0xDB), (.unimplDD, 0xDD), (.unimplE3, 0xE3),
      (.unimplE4, 0xE4), (.unimplEB, 0xEB), (.unimplEC, 0xEC), (.unimplED, 0xED), (.unimplF4, 0xF4),
      (.unimplFC, 0xFC), (.unimplFD, 0xFD)] : List (Instr × Byte)),
    encode c.1 = [c.2] ∧
    ∃ t, exec c.1 s = .next t ∧ t.reports = ⟨c.2, s.pc - 1#16⟩ :: s.reports ∧
      KeepsRegs [] s t ∧ t.flags = s.flags ∧ KeepsBytes [] s t ∧ t.sp = s.sp ∧ t.pc = s.pc ∧
      Charges 0 s t ∧ t.ime = s.ime ∧ t.dip = s.dip ∧ t.halt = s.halt ∧ t.divAcc = s.divAcc ∧
      t.timaAcc = s.timaAcc ∧ t.ovf = s.ovf ∧ t.extIrq = s.extIrq

/-! ## Registers, flags and memory -/

/-- Rule R61: a byte written reads back, no other byte changes, and nothing outside memory does. -/
def Obligations.ByteWriteChangesThatByteOnly : Prop :=
  ∀ (s : State) (a : Addr) (v : Byte),
    (s.writeByte a v).readByte a = v ∧
    (∀ x, x ≠ a → (s.writeByte a v).readByte x = s.readByte x) ∧
    (s.writeByte a v).regs = s.regs ∧ (s.writeByte a v).flags = s.flags ∧
    (s.writeByte a v).sp = s.sp ∧ (s.writeByte a v).pc = s.pc ∧ (s.writeByte a v).cyc = s.cyc ∧
    KeepsControl s (s.writeByte a v)

/-- Rules R63 (D5), R65, R66: a 16-bit store and load are two byte accesses, low byte at the lower
address, the upper one at `addr + 1` mod 65536. -/
def Obligations.WordAccessIsTwoBytes : Prop :=
  ∀ (s : State) (a : Addr) (v : Word),
    (s.readWord a).toNat =
      (s.readByte (BitVec.ofNat 16 ((a.toNat + 1) % 65536))).toNat * 256 + (s.readByte a).toNat ∧
    ((s.writeWord a v).readByte a).toNat = v.toNat % 256 ∧
    ((s.writeWord a v).readByte (BitVec.ofNat 16 ((a.toNat + 1) % 65536))).toNat = v.toNat / 256 ∧
    KeepsBytes [a, a + 1#16] s (s.writeWord a v) ∧
    (s.writeWord a v).readWord a = v

/-- Rule R180: what a push stores and where, what a pop reads and from where, and the round trip, for
every value and every SP. -/
def Obligations.PushThenPopReturnsTheValue : Prop :=
  ∀ (s : State) (v : Word),
    ((s.push16 v).readByte (s.sp - 1#16) = hiByte v ∧ (s.push16 v).readByte (s.sp - 2#16) = loByte v ∧
      KeepsBytes [s.sp - 1#16, s.sp - 2#16] s (s.push16 v) ∧ (s.push16 v).sp = s.sp - 2#16) ∧
    (s.popValue = join (s.readByte (s.sp + 1#16)) (s.readByte s.sp) ∧ s.popSp.sp = s.sp + 2#16) ∧
    ((s.push16 v).popValue = v ∧ (s.push16 v).popSp.sp = s.sp)

/-- Rules R20, R21, R22, R93: the pairs are the registers, high byte first, read and written; the codes of
the two pair tables name them so; F holds the flags in bits 7 to 4 and nothing else (general knowledge,
D4). -/
def Obligations.PairsAreViewsOfTheRegisters : Prop :=
  ∀ (s : State) (v : Word),
    (s.bc.toNat = (s.reg .b).toNat * 256 + (s.reg .c).toNat ∧
      s.de.toNat = (s.reg .d).toNat * 256 + (s.reg .e).toNat ∧
      s.hl.toNat = (s.reg .h).toNat * 256 + (s.reg .l).toNat) ∧
    s.af.toNat = (s.reg .a).toNat * 256 + s.flags.z.toNat * 128 + s.flags.n.toNat * 64 +
      s.flags.h.toNat * 32 + s.flags.c.toNat * 16 ∧
    (((s.setBc v).reg .b).toNat = v.toNat / 256 ∧ ((s.setBc v).reg .c).toNat = v.toNat % 256 ∧
      KeepsRegs [.b, .c] s (s.setBc v)) ∧
    (((s.setDe v).reg .d).toNat = v.toNat / 256 ∧ ((s.setDe v).reg .e).toNat = v.toNat % 256 ∧
      KeepsRegs [.d, .e] s (s.setDe v)) ∧
    (((s.setHl v).reg .h).toNat = v.toNat / 256 ∧ ((s.setHl v).reg .l).toNat = v.toNat % 256 ∧
      KeepsRegs [.h, .l] s (s.setHl v)) ∧
    ((s.setAf v).af.toNat = v.toNat / 16 * 16 ∧ KeepsRegs [.a] s (s.setAf v)) ∧
    ((s.pair .bc).toNat = (s.reg .b).toNat * 256 + (s.reg .c).toNat ∧
      (s.pair .de).toNat = (s.reg .d).toNat * 256 + (s.reg .e).toNat ∧
      (s.pair .hl).toNat = (s.reg .h).toNat * 256 + (s.reg .l).toNat ∧ s.pair .sp = s.sp) ∧
    ((s.stackPair .bc).toNat = (s.reg .b).toNat * 256 + (s.reg .c).toNat ∧
      (s.stackPair .de).toNat = (s.reg .d).toNat * 256 + (s.reg .e).toNat ∧
      (s.stackPair .hl).toNat = (s.reg .h).toNat * 256 + (s.reg .l).toNat ∧
      s.stackPair .af = s.af) ∧
    (s.setPair .bc v = s.setBc v ∧ s.setPair .de v = s.setDe v ∧ s.setPair .hl v = s.setHl v ∧
      s.setPair .sp v = { s with sp := v }) ∧
    (s.setStackPair .bc v = s.setBc v ∧ s.setStackPair .de v = s.setDe v ∧
      s.setStackPair .hl v = s.setHl v ∧ s.setStackPair .af v = s.setAf v)

/-- Rule R150, whole: the sums and differences mod 256, half-carry and carry by their laws, and Zero of
every instruction that uses the adder. -/
def Obligations.AdderLaws : Prop :=
  (∀ (a b : Byte) (cin : Bool),
    ((add8 a b cin).value.toNat = (a.toNat + b.toNat + cin.toNat) % 256 ∧
      ((add8 a b cin).half = true ↔ a.toNat % 16 + b.toNat % 16 + cin.toNat > 0xF) ∧
      ((add8 a b cin).carry = true ↔ a.toNat + b.toNat + cin.toNat > 0xFF)) ∧
    (((sub8 a b cin).value.toNat : Int) = ((a.toNat : Int) - b.toNat - cin.toNat) % 256 ∧
      ((sub8 a b cin).half = true ↔ a.toNat % 16 < b.toNat % 16 + cin.toNat) ∧
      ((sub8 a b cin).carry = true ↔ a.toNat < b.toNat + cin.toNat))) ∧
  ∀ (s : State) (v : Byte) (x : Slot),
    ((s.addA v).flags.z = true ↔ (s.addA v).reg .a = 0#8) ∧
    ((s.adcA v).flags.z = true ↔ (s.adcA v).reg .a = 0#8) ∧
    ((s.subA v).flags.z = true ↔ (s.subA v).reg .a = 0#8) ∧
    ((s.sbcA v).flags.z = true ↔ (s.sbcA v).reg .a = 0#8) ∧
    ((s.cpA v).flags.z = true ↔ (sub8 (s.reg .a) v false).value = 0#8) ∧
    ((s.incSlot x).flags.z = true ↔ (add8 (s.slot x) 1#8 false).value = 0#8) ∧
    ((s.decSlot x).flags.z = true ↔ (sub8 (s.slot x) 1#8 false).value = 0#8)

/-- Rule R151: the two-step forms of ADC and SBC, with their carries ORed, are the three-operand
ones. -/
def Obligations.TwoStepCarryFormsAgree : Prop :=
  ∀ (a v : Byte) (cin : Bool),
    let k : Byte := if cin then 1#8 else 0#8
    let t := add8 v k false
    let r := add8 a t.value false
    let u := sub8 a v false
    let q := sub8 u.value k false
    add8 a v cin = ⟨r.value, t.half || r.half, t.carry || r.carry⟩ ∧
    sub8 a v cin = ⟨q.value, u.half || q.half, u.carry || q.carry⟩

/-- Rule R190: the sum takes the offset signed; half-carry and carry take it unsigned, out of bits 3
and 7. -/
def Obligations.StackPointerOffsetHelper : Prop :=
  ∀ (sp : Word) (e : Byte),
    (sext16 e).toNat = (if e.toNat < 0x80 then e.toNat else 0xFF00 + e.toNat) ∧
    (addSp sp e).value.toNat = (sp.toNat + (sext16 e).toNat) % 65536 ∧
    ((addSp sp e).half = true ↔ sp.toNat % 16 + e.toNat % 16 > 0xF) ∧
    ((addSp sp e).carry = true ↔ sp.toNat % 256 + e.toNat > 0xFF)

/-! ## Who writes and reads what -/

/-- Rules R26, R164: an instruction leaves alone each flag whose cell in the table is `-`, and the
rest of the tick leaves alone all four. The `-` cells marked `g` are general knowledge (D27). -/
def Obligations.FlagsChangeOnlyWhereTheTableSays : Prop :=
  (∀ (i : Instr) (s t : State), exec i s = .next t →
    ((flagWrites i).1 = false → t.flags.z = s.flags.z) ∧
    ((flagWrites i).2.1 = false → t.flags.n = s.flags.n) ∧
    ((flagWrites i).2.2.1 = false → t.flags.h = s.flags.h) ∧
    ((flagWrites i).2.2.2 = false → t.flags.c = s.flags.c)) ∧
  (∀ s t : State, step s = .next t → s.halt = true → t.flags = s.flags) ∧
  (∀ s t u : State, step s = .next t → s.halt = false →
    exec (fetched s) (atExecution s) = .next u → t.flags = u.flags)

/-- Rules R23, R24, R305, R326: an instruction moves PC only if it is control flow and SP only if it is of
SP's eight kinds; a step moves both as its instruction did, PC past the instruction's bytes first (log
entry 7), a halted one not at all; and after that only servicing a source moves them, pushing PC and
taking SP down by 2. -/
def Obligations.PcAndSpHaveTheseWritersOnly : Prop :=
  (∀ (i : Instr) (s t : State), exec i s = .next t →
    (isControlFlow i = false → t.pc = s.pc) ∧ (writesSp i = false → t.sp = s.sp)) ∧
  (∀ s t : State, step s = .next t → s.halt = true →
    (t.pc = s.pc ∧ t.sp = s.sp) ∨
    (Serviced (haltedBeforeController s) t ∧ t.sp = s.sp - 2#16 ∧
      t.readByte (s.sp - 1#16) = hiByte s.pc ∧ t.readByte (s.sp - 2#16) = loByte s.pc)) ∧
  ∀ s t u : State, step s = .next t → s.halt = false →
    exec (fetched s) (atExecution s) = .next u →
    (isControlFlow (fetched s) = false → u.pc = s.pc + BitVec.ofNat 16 (fetched s).length) ∧
    (writesSp (fetched s) = false → u.sp = s.sp) ∧
    ((t.pc = u.pc ∧ t.sp = u.sp) ∨
      (Serviced (executedBeforeController s u) t ∧ t.sp = u.sp - 2#16 ∧
        t.readByte (u.sp - 1#16) = hiByte u.pc ∧ t.readByte (u.sp - 2#16) = loByte u.pc))

/-- Rule R28: IME is set by EI and RETI, cleared by servicing and by the resolution of a pending DI, and
by nothing else; it gates servicing; no instruction reads it. That EI and RETI set it within the
instruction, with no delay, is a decision of the spec (D11; C2) and the model's fixed parameter (log
entry 4). -/
def Obligations.ImeHasTheseWritersOnly : Prop :=
  (∀ (i : Instr) (s t : State), exec i s = .next t →
    t.ime = (if i = .ei ∨ i = .reti then true else s.ime)) ∧
  (∀ (s : State) (a : Addr) (v : Byte), (s.writeByte a v).ime = s.ime) ∧
  (∀ (s : State) (e : Byte) (b a : BitVec 64),
    (s.acceptIrq e).ime = s.ime ∧ (s.timerUpdate b a).ime = s.ime) ∧
  (∀ (s : State) (executed wasDi : Bool), (s.resolveDi executed wasDi).ime =
    (if s.dip = true ∧ executed = true ∧ wasDi = false then false else s.ime)) ∧
  (∀ s : State,
    (s.ime = false → s.interruptController.ime = false ∧ s.interruptController.pc = s.pc ∧
      s.interruptController.sp = s.sp ∧ KeepsBytes [] s s.interruptController) ∧
    (s.ime = true → s.interruptController.ime = (firstPending s.pending).isNone)) ∧
  ∀ (i : Instr) (s t : State) (v : Bool), exec i s = .next t →
    exec i { s with ime := v } = .next { t with ime := if i = .ei ∨ i = .reti then true else v }

/-- Rule R29: DIP is set by DI, cleared with IME by the resolution of rule R311, and by nothing else in
either case; no instruction reads it. -/
def Obligations.DipHasTheseWritersOnly : Prop :=
  (∀ (i : Instr) (s t : State), exec i s = .next t → t.dip = (if i = .di then true else s.dip)) ∧
  (∀ (s : State) (a : Addr) (v : Byte), (s.writeByte a v).dip = s.dip) ∧
  (∀ (s : State) (e : Byte) (b a : BitVec 64),
    (s.acceptIrq e).dip = s.dip ∧ (s.timerUpdate b a).dip = s.dip ∧
    s.interruptController.dip = s.dip) ∧
  (∀ (s : State) (executed wasDi : Bool),
    (s.dip = true ∧ executed = true ∧ wasDi = false →
      (s.resolveDi executed wasDi).dip = false ∧ (s.resolveDi executed wasDi).ime = false) ∧
    (¬ (s.dip = true ∧ executed = true ∧ wasDi = false) → s.resolveDi executed wasDi = s)) ∧
  ∀ (i : Instr) (s t : State) (v : Bool), exec i s = .next t →
    exec i { s with dip := v } = .next { t with dip := if i = .di then true else v }

/-- Rule R30: HALT is set by the instruction HALT, cleared by the interrupt controller, and by nothing
else; while it is set a step fetches nothing, so the byte at PC does not matter. -/
def Obligations.HaltHasTheseWritersOnly : Prop :=
  (∀ (i : Instr) (s t : State), exec i s = .next t → t.halt = (if i = .halt then true else s.halt)) ∧
  (∀ (s : State) (e : Byte) (b a : BitVec 64) (x di : Bool),
    (s.acceptIrq e).halt = s.halt ∧ (s.timerUpdate b a).halt = s.halt ∧
    (s.resolveDi x di).halt = s.halt) ∧
  (∀ s : State, s.interruptController.halt =
    (s.halt && s.pending == 0#8 && !(s.ime && (firstPending s.pending).isSome))) ∧
  (∀ s : State, s.halt = true →
    ∃ t, step s = .next t ∧ t.regs = s.regs ∧ t.flags = s.flags ∧ t.reports = s.reports)

/-- Rules R27, R28, R29, R30, R42: the effect of an instruction on registers, flags, SP, PC, memory and
its cycle amount is a function of registers, flags, SP, PC and memory as read byte by byte. -/
def Obligations.InstructionsReadNoHiddenState : Prop :=
  ∀ (i : Instr) (s s' t : State),
    s'.regs = s.regs → s'.flags = s.flags → s'.sp = s.sp → s'.pc = s.pc →
    (∀ a, s'.readByte a = s.readByte a) →
    exec i s = .next t →
    ∃ t', exec i s' = .next t' ∧ t'.regs = t.regs ∧ t'.flags = t.flags ∧ t'.sp = t.sp ∧
      t'.pc = t.pc ∧ (∀ a, t'.readByte a = t.readByte a) ∧ t'.cyc - s'.cyc = t.cyc - s.cyc

/-! ## The tick, interrupts, halt mode -/

/-- Rules R253, R311 (D12), R364: DI leaves IME alone in its own tick but for a service; with DIP set,
the first tick that executes anything but DI clears both and services nothing; DI again keeps DIP. -/
def Obligations.DiTakesEffectOneInstructionLater : Prop :=
  ∀ s t u : State, s.halt = false → exec (fetched s) (atExecution s) = .next u → step s = .next t →
    (fetched s = .di → t.dip = true ∧
      (t.ime = s.ime ∨ ∃ i : IrqSource, s.ime = true ∧ t.ime = false ∧ t.pc = i.vector)) ∧
    (fetched s ≠ .di → s.dip = true →
      t.dip = false ∧ t.ime = false ∧ t.pc = u.pc ∧ t.sp = u.sp ∧ t.cyc = u.cyc) ∧
    (fetched s ≠ .di → s.dip = false → t.dip = false)

/-- Rule R308, whole: what servicing a source saves, clears and sets, in its order, and that it changes
nothing else; a push that falls on IF overwrites the cleared IF. The cost is the parameter of rule R7. -/
def Obligations.ServiceIsTheTrapEntry : Prop :=
  ∀ (s : State) (i : IrqSource),
    let t := s.service i
    t.ime = false ∧ t.halt = false ∧ t.sp = s.sp - 2#16 ∧ t.pc = i.vector ∧
    Charges irqDispatchCycles s t ∧
    t.readByte (s.sp - 1#16) = hiByte s.pc ∧ t.readByte (s.sp - 2#16) = loByte s.pc ∧
    (ifAddr ≠ s.sp - 1#16 → ifAddr ≠ s.sp - 2#16 →
      ∀ k < 8, (t.readByte ifAddr).getLsbD k = ((s.readByte ifAddr).getLsbD k && k != i.bit)) ∧
    KeepsBytes [s.sp - 1#16, s.sp - 2#16, ifAddr] s t ∧
    t.regs = s.regs ∧ t.flags = s.flags ∧ t.dip = s.dip ∧ KeepsHidden s t

/-- Rules R303, R305, R306, R309 (D6): the lowest bit of 4 to 0 set in both IE and IF is serviced while
IME is 1, and only that one; its handler is at 0x40 + 8 times its number. With none of the five, or
IME 0, nothing is serviced. -/
def Obligations.LowestPendingSourceIsServiced : Prop :=
  ∀ s : State,
    (∀ k < 5, s.ime = true → s.pending.getLsbD k = true →
      (∀ j < k, s.pending.getLsbD j = false) →
      ∃ i : IrqSource, i.bit = k ∧ i.vector.toNat = 0x40 + 8 * k ∧
        s.interruptController = s.service i) ∧
    ((s.ime = false ∨ ∀ k < 5, s.pending.getLsbD k = false) →
      s.interruptController = s.setHalt (s.halt && s.pending == 0#8)) ∧
    s.pending = s.readByte 0xFFFF#16 &&& s.readByte 0xFF0F#16

/-- Rules R307 (D16, D28), R326 (D10): a halted step fetches nothing and adds 4 cycles; it ends with CORE
still halted and PC, SP, IME as they were; or awake, the same but for HALT; or with a source
serviced, PC pushed. -/
def Obligations.HaltedStepWaitsWakesOrServices : Prop :=
  ∀ s : State, s.halt = true →
    ∃ t, step s = .next t ∧ t.regs = s.regs ∧ t.flags = s.flags ∧ t.dip = s.dip ∧
      t.reports = s.reports ∧
      ((t.pc = s.pc ∧ t.sp = s.sp ∧ t.ime = s.ime ∧ Charges 4 s t ∧
          (t.halt = true ↔ t.readByte ieAddr &&& t.readByte ifAddr = 0#8)) ∨
        ∃ i : IrqSource, s.ime = true ∧ t.ime = false ∧ t.halt = false ∧ t.pc = i.vector ∧
          t.sp = s.sp - 2#16 ∧ t.readByte (s.sp - 1#16) = hiByte s.pc ∧
          t.readByte (s.sp - 2#16) = loByte s.pc ∧ Charges 24 s t)

/-- Rules R10, R326, R369 (D10, D25): halted with IE = 0, CORE never fetches again: after any number of
ticks it is halted at the same PC, with the same registers, flags and SP, and CYC has grown by 4
each. -/
def Obligations.HaltWithNoSourceEnabledIsForEver : Prop :=
  ∀ (s : State) (n : Nat), s.halt = true → s.readByte ieAddr = 0#8 →
    ∃ t, Host.Core.run Sys2Proof.core n s = .next t ∧ t.halt = true ∧ t.readByte ieAddr = 0#8 ∧
      t.pc = s.pc ∧ t.sp = s.sp ∧ t.regs = s.regs ∧ t.flags = s.flags ∧ t.ime = s.ime ∧
      t.cyc = s.cyc + BitVec.ofNat 64 (4 * n)

/-- Rules R300 step 1, R304 (D17): the requests of a tick are ORed into bits 4 to 0 of IF and change
nothing else; with the default of no request, memory in canonical form is untouched. The list they
come from is the model's (log entry 5). -/
def Obligations.ExternalRequestsSetBitsOfIf : Prop :=
  ∀ (s : State) (e : Byte),
    (∀ k < 8, ((s.acceptIrq e).readByte ifAddr).getLsbD k =
      ((s.readByte ifAddr).getLsbD k || (decide (k < 5) && e.getLsbD k))) ∧
    KeepsBytes [ifAddr] s (s.acceptIrq e) ∧
    (s.acceptIrq e).regs = s.regs ∧ (s.acceptIrq e).flags = s.flags ∧ (s.acceptIrq e).sp = s.sp ∧
    (s.acceptIrq e).pc = s.pc ∧ (s.acceptIrq e).cyc = s.cyc ∧ KeepsControl s (s.acceptIrq e) ∧
    (s.mem.wf → s.extIrq = [] → afterRequests s = s)

/-- Rules R305, R308, R313: an interrupt is taken after an instruction with all its effects, the timer's
update included, and before the next: the step ends in the state that servicing makes of the one the
instruction and the update left. So the PC pushed is the one the instruction left, the handler starts
with that instruction's registers, flags and timer, and memory is as the instruction and the update left
it but for the two stack bytes and IF. -/
def Obligations.InterruptsArePrecise : Prop :=
  ∀ (s u : State) (i : IrqSource),
    s.halt = false → exec (fetched s) (atExecution s) = .next u →
    (s.dip = false ∨ fetched s = .di) → u.ime = true →
    firstPending (u.timerUpdate s.cyc u.cyc).pending = some i →
    ∃ t, step s = .next t ∧ t = (u.timerUpdate s.cyc u.cyc).service i ∧
      KeepsBytes [u.sp - 1#16, u.sp - 2#16, ifAddr] (u.timerUpdate s.cyc u.cyc) t ∧
      t.pc = i.vector ∧ t.sp = u.sp - 2#16 ∧
      t.readByte (u.sp - 1#16) = hiByte u.pc ∧ t.readByte (u.sp - 2#16) = loByte u.pc ∧
      t.ime = false ∧ t.halt = false ∧ t.regs = u.regs ∧ t.flags = u.flags ∧
      Charges irqDispatchCycles u t

/-- Rules R308, R244, R312: RETI straight after the entry returns to the interrupted PC with SP as it
was and IME set; registers and flags were never touched. -/
def Obligations.RetiUndoesTheTrapEntry : Prop :=
  ∀ (s : State) (i : IrqSource),
    ∃ t, exec .reti (s.service i) = .next t ∧ t.pc = s.pc ∧ t.sp = s.sp ∧ t.ime = true ∧
      t.halt = false ∧ t.dip = s.dip ∧ t.regs = s.regs ∧ t.flags = s.flags ∧ KeepsHidden s t

/-! ## The timer -/

/-- Rule R318: over any run of timer updates DIV grows by one for every 256 cycles, remainders carried
over, mod 256, whatever TAC says; no instruction touches the remainder, a store to DIV included; and
DIV raises no interrupt. -/
def Obligations.DivCountsEvery256Cycles : Prop :=
  (∀ (s : State) (elapsed : List Nat), elapsed ≠ [] → (∀ d ∈ elapsed, d < 2 ^ 64) →
    (timerRun s elapsed).readByte divAddr =
      s.readByte divAddr + BitVec.ofNat 8 ((s.divAcc + elapsed.sum) / 256) ∧
    (timerRun s elapsed).divAcc = (s.divAcc + elapsed.sum) % 256) ∧
  (∀ (i : Instr) (s t : State), exec i s = .next t → t.divAcc = s.divAcc) ∧
  (∀ (s : State) (v : Byte), (s.writeByte divAddr v).readByte divAddr = v) ∧
  ∀ (s : State) (b a : BitVec 64), s.ovf = false →
    (s.timerUpdate b a).readByte ifAddr = s.readByte ifAddr ∧
    (timaEnabled (s.readByte tacAddr) = false → KeepsBytes [divAddr] s (s.timerUpdate b a))

/-- Rules R317, R319, R321 (D18): enabled and with no reload due, TIMA grows by one for every period of
1024, 16, 64 or 256 cycles, and `ovf` is raised exactly when it passes 0xFF; disabled, neither TIMA nor
its remainder moves. -/
def Obligations.TimaCountsPeriods : Prop :=
  ∀ (s : State) (b a : BitVec 64), s.ovf = false →
    let tac := (s.readByte tacAddr).toNat
    let period := if tac % 4 = 0 then 1024 else if tac % 4 = 1 then 16 else if tac % 4 = 2 then 64 else 256
    let total := s.timaAcc + (a - b).toNat
    let tima := (s.readByte timaAddr).toNat
    let t := s.timerUpdate b a
    (tac / 4 % 2 = 1 →
      (t.readByte timaAddr).toNat = (tima + total / period) % 256 ∧
      t.timaAcc = total % period ∧
      (t.ovf = true ↔ tima + total / period ≥ 256)) ∧
    (tac / 4 % 2 = 0 → t.readByte timaAddr = s.readByte timaAddr ∧ t.timaAcc = s.timaAcc ∧
      t.ovf = false) ∧
    KeepsBytes [divAddr, timaAddr] s t

/-- Rule R320: the update that overflows TIMA leaves it at 0 (1 if a second period elapsed, and so on)
with IF as it was; the next update, whatever TAC and TIMA hold by then, starts from TMA and sets bit 2
of IF. -/
def Obligations.TimaReloadIsOneUpdateLate : Prop :=
  (∀ (s : State) (b a : BitVec 64), s.ovf = false → (s.timerUpdate b a).ovf = true →
    let count := (s.readByte timaAddr).toNat +
      (s.timaAcc + (a - b).toNat) / timaPeriod (s.readByte tacAddr)
    count ≥ 256 ∧ ((s.timerUpdate b a).readByte timaAddr).toNat = count % 256 ∧
    (s.timerUpdate b a).readByte ifAddr = s.readByte ifAddr) ∧
  ∀ (s : State) (b a : BitVec 64), s.ovf = true →
    s.timerUpdate b a = State.timerUpdate { ((s.writeByte timaAddr (s.readByte tmaAddr)).writeByte
      ifAddr (s.readByte ifAddr ||| 4#8)) with ovf := false } b a ∧
    (s.timerUpdate b a).readByte ifAddr = s.readByte ifAddr ||| 4#8 ∧
    (timaEnabled (s.readByte tacAddr) = false →
      (s.timerUpdate b a).readByte timaAddr = s.readByte tmaAddr ∧ (s.timerUpdate b a).ovf = false)

/-- Rule R321: bit 2 of TAC makes TIMA count, bits 1 to 0 select the period; bits 7 to 3 have no
function and are stored as written. That the remainder stays while bit 2 is clear is a decision (rules
R317, R319; D18). -/
def Obligations.TacFields : Prop :=
  ∀ (s : State) (v : Byte) (b a : BitVec 64),
    let s1 := s.writeByte tacAddr v
    let t := s1.timerUpdate b a
    let plain := (s.writeByte tacAddr (v &&& 7#8)).timerUpdate b a
    let period := [1024, 16, 64, 256].getD (v.toNat % 4) 0
    (v.toNat / 4 % 2 = 1 → s.ovf = false → s.timaAcc = 0 → (a - b).toNat = period →
      t.readByte timaAddr = s.readByte timaAddr + 1#8 ∧ t.timaAcc = 0) ∧
    (v.toNat / 4 % 2 = 0 → s.ovf = false →
      t.readByte timaAddr = s.readByte timaAddr ∧ t.timaAcc = s.timaAcc) ∧
    (s1.readByte tacAddr = v ∧ t.readByte tacAddr = v) ∧
    (KeepsBytes [tacAddr] plain t ∧ t.timaAcc = plain.timaAcc ∧ t.divAcc = plain.divAcc ∧
      t.ovf = plain.ovf)

/-- Rules R316, R317, R319, R27: the timer, DIV and TIMA with both remainders and the delayed overflow,
counts the cycles of the instruction (or of the halted charge) and never those of a dispatch, which CYC
counts too. The amount 4 of a halted step is D10, the cost 20 of a dispatch D8, that the timer leaves it
out D9, that a disabled TIMA keeps its remainder D18; log entry 4 fixes the amounts. -/
def Obligations.TimerNeverSeesDispatchCycles : Prop :=
  ∀ s t : State, step s = .next t →
    (s.halt = true →
      (Charges 4 s t ∨ (Charges 24 s t ∧ t.ime = false)) ∧
      t.divAcc = (s.divAcc + 4) % 256 ∧
      t.timaAcc = (if timaEnabled (s.readByte tacAddr) then
        (s.timaAcc + 4) % timaPeriod (s.readByte tacAddr) else s.timaAcc) ∧
      t.ovf = ((afterRequests s).timerUpdate 0#64 4#64).ovf ∧
      ∀ a, a = divAddr ∨ a = timaAddr → a ∉ [s.sp - 1#16, s.sp - 2#16] →
        t.readByte a = ((afterRequests s).timerUpdate 0#64 4#64).readByte a) ∧
    (∀ u, s.halt = false → exec (fetched s) (atExecution s) = .next u →
      let n := u.cyc - s.cyc
      (Charges 0 u t ∨ (Charges 20 u t ∧ t.ime = false)) ∧
      t.divAcc = (s.divAcc + n.toNat) % 256 ∧
      t.timaAcc = (if timaEnabled (u.readByte tacAddr) then
        (s.timaAcc + n.toNat) % timaPeriod (u.readByte tacAddr) else s.timaAcc) ∧
      t.ovf = (u.timerUpdate 0#64 n).ovf ∧
      ∀ a, a = divAddr ∨ a = timaAddr → a ∉ [u.sp - 1#16, u.sp - 2#16] →
        t.readByte a = (u.timerUpdate 0#64 n).readByte a)

/-! ## Fetch, reset, load, invariants -/

/-- Rules R70, R73: a byte stored over the next instruction is the one the next tick fetches, with
nothing in between. `LD (HL),A` runs at PC with HL at PC + 1; the timer's and the controller's own bytes
are kept out of the way. -/
def Obligations.StoreIsSeenByTheNextFetch : Prop :=
  ∀ s : State, s.halt = false → s.ime = false → s.extIrq = [] → fetched s = .ldHLR .a →
    s.hl = s.pc + 1#16 → s.hl ∉ [divAddr, timaAddr, ifAddr] →
    ∃ t, step s = .next t ∧ t.pc = s.pc + 1#16 ∧ t.readByte t.pc = s.reg .a ∧
      ∀ i : Instr, i.wellFormed = true → encode i = [s.reg .a] → fetched t = i

/-- Rules R5, R40, R360, R362 (D20): `Reset(launch)` takes every OPEN value from its argument, for every
argument, and the hidden state is 0. `State.reset` is the launch of log entries 1, 2 and 3. -/
def Obligations.ResetTakesTheLaunchValues : Prop :=
  (∀ l : Launch,
    let s := State.launch l
    (s.reg .a = l.resetA ∧ s.reg .b = l.resetB ∧ s.reg .c = l.resetC ∧ s.reg .d = l.resetD ∧
      s.reg .e = l.resetE ∧ s.reg .h = l.resetH ∧ s.reg .l = l.resetL) ∧
    s.flags = { z := l.resetF.getLsbD 7, n := l.resetF.getLsbD 6, h := l.resetF.getLsbD 5,
                c := l.resetF.getLsbD 4 } ∧
    s.sp = l.resetSP ∧ s.pc = l.resetPC ∧
    (∀ (pre post : List (Addr × Byte)) (a : Addr) (v : Byte), l.resetMem = pre ++ (a, v) :: post →
      (∀ p ∈ post, p.1 ≠ a) → s.readByte a = v) ∧
    s.cyc = 0#64 ∧ s.ime = false ∧ s.dip = false ∧ s.halt = false ∧ s.divAcc = 0 ∧ s.timaAcc = 0 ∧
    s.ovf = false) ∧
  State.launch Config.defaultLaunch = State.reset

/-- Rules R360, R40, R31, R41, R326: the state after reset meets the invariant, for every launch.
`State.reset` is the model's choice of a launch (log entries 1, 2 and 3, DESIGN CHOICE), so the first
clause rests on them; the second holds for every launch. -/
def Obligations.ResetMeetsTheInvariant : Prop :=
  State.reset.Inv ∧ ∀ l : Launch, (State.launch l).Inv

/-- Rules R31, R41, R326: from every state that meets it, a step keeps the invariant: memory in
canonical form and below 65,536, `div_acc` below 256, `tima_acc` below the longest period, no pending DI
in halt mode. -/
def Obligations.StepKeepsTheInvariant : Prop :=
  ∀ s t : State, s.Inv → step s = .next t → t.Inv

/-- Rule R75 (D22): a load puts its bytes at address 0 upward, verbatim, and changes nothing else; one of
more than 65,536 bytes is refused. Rule R5 makes a load legal between reset and the first tick only; that
`State.load` answers in every state is the model's choice (log entry 14). -/
def Obligations.LoadPlacesBytesFromAddressZero : Prop :=
  ∀ (s : State) (bytes : List Byte),
    (bytes.length ≤ 65536 → ∃ t, s.load bytes = .next t ∧
      (∀ k, k < bytes.length → t.peek (BitVec.ofNat 16 k) = bytes.getD k 0#8) ∧
      (∀ a : Addr, bytes.length ≤ a.toNat → t.peek a = s.peek a) ∧
      t.regs = s.regs ∧ t.flags = s.flags ∧ t.sp = s.sp ∧ t.pc = s.pc ∧ t.cyc = s.cyc ∧
      KeepsControl s t) ∧
    (65536 < bytes.length → s.load bytes = .refused .loadTooLong)

end
end

