-- ==== Sys2Proof/Laws/Decode.lean ====
section
/-! SUPPORT. The operand codes and their inverses (rules R92 to R94), and that the length of an
instruction is decided by its first byte (rule R90). -/

namespace Sys2Proof

@[simp] theorem Slot.ofCode_code (r : Reg8) : Slot.ofCode r.code = .reg r := by cases r <;> rfl
@[simp] theorem Pair.ofCode_code (p : Pair) : Pair.ofCode p.code = p := by cases p <;> rfl
@[simp] theorem StackPair.ofCode_code (q : StackPair) : StackPair.ofCode q.code = q := by cases q <;> rfl
@[simp] theorem Cond.ofCode_code (cc : Cond) : Cond.ofCode cc.code = cc := by cases cc <;> rfl

/-- Every instruction of the secondary table has two bytes (rule R90). -/
theorem decodeSecondary_length (op2 : Byte) : (decodeSecondary op2).length = 2 := by
  unfold decodeSecondary CbOp.toInstr
  cases CbOp.ofByte op2 <;> cases Slot.ofCode (fieldZ op2) <;> rfl

/-- Rows whose instructions all have the length that byte 0 alone gives. -/
def DecodeRow.fixedLength (row : DecodeRow) : Prop :=
  ∀ op n1 n2 m1 m2, (row.build op n1 n2).length = (row.build op m1 m2).length

theorem primaryRows_fixedLength : ∀ row ∈ primaryRows, row.fixedLength := by
  have hrow : ∀ {m p f}, (rowOp m p f).fixedLength := fun _ _ _ _ _ => rfl
  simp only [primaryRows, rowsControl, rowsLow, rowsMiddle, rowsHigh, List.forall_mem_append,
    List.forall_mem_cons]
  repeat' apply And.intro
  all_goals first
    | exact hrow
    | exact fun _ h => absurd h List.not_mem_nil
    | exact fun _ _ _ _ _ => rfl
    | exact fun _ _ _ _ _ => (decodeSecondary_length _).trans (decodeSecondary_length _).symm
    | skip
  · intro op n1 n2 m1 m2
    show (ldNOf _ _).length = (ldNOf _ _).length
    cases Slot.ofCode (fieldY op) <;> rfl
  · intro op n1 n2 m1 m2
    show (aluNOf _ _).length = (aluNOf _ _).length
    unfold aluNOf
    split <;> rfl

/-- "The length of an instruction is decided by byte 0 alone" (rule R90). -/
theorem decodeBytes_length (op n1 n2 m1 m2 : Byte) :
    (decodeBytes op n1 n2).length = (decodeBytes op m1 m2).length := by
  unfold decodeBytes
  cases h : primaryRows.find? fun row => op &&& row.mask == row.pattern with
  | none => rfl
  | some row => exact primaryRows_fixedLength row (List.mem_of_find?_eq_some h) _ _ _ _ _

/-- Decoding a sequence that starts with a one-byte instruction. -/
theorem decode_one {op : Byte} {rest : List Byte} (h : (decodeBytes op 0#8 0#8).length = 1) :
    decode (op :: rest) = .ok (decodeBytes op (rest.getD 0 0#8) (rest.getD 1 0#8), rest) := by
  simp [decode, h]

/-- Decoding a sequence that starts with a two-byte instruction. -/
theorem decode_two {op n : Byte} {rest : List Byte} (h : (decodeBytes op 0#8 0#8).length = 2) :
    decode (op :: n :: rest) = .ok (decodeBytes op n (rest.getD 0 0#8), rest) := by
  simp [decode, h]

/-- Decoding a sequence that starts with a three-byte instruction. -/
theorem decode_three {op l u : Byte} {rest : List Byte} (h : (decodeBytes op 0#8 0#8).length = 3) :
    decode (op :: l :: u :: rest) = .ok (decodeBytes op l u, rest) := by
  simp [decode, h]

end Sys2Proof
end

