-- ==== Sys2Proof/Laws/State.lean ====
section
/-! SUPPORT. One lemma for each field of the state and each update of one piece of it. -/

namespace Sys2Proof.Machine

/-! `writeByte` -/

@[simp] theorem State.writeByte_regs (s : State) (a : Addr) (v : Byte) : (s.writeByte a v).regs = s.regs := rfl
@[simp] theorem State.writeByte_flags (s : State) (a : Addr) (v : Byte) : (s.writeByte a v).flags = s.flags := rfl
@[simp] theorem State.writeByte_sp (s : State) (a : Addr) (v : Byte) : (s.writeByte a v).sp = s.sp := rfl
@[simp] theorem State.writeByte_pc (s : State) (a : Addr) (v : Byte) : (s.writeByte a v).pc = s.pc := rfl
@[simp] theorem State.writeByte_mem (s : State) (a : Addr) (v : Byte) : (s.writeByte a v).mem = s.mem.store a.toNat v := rfl
@[simp] theorem State.writeByte_cyc (s : State) (a : Addr) (v : Byte) : (s.writeByte a v).cyc = s.cyc := rfl
@[simp] theorem State.writeByte_ime (s : State) (a : Addr) (v : Byte) : (s.writeByte a v).ime = s.ime := rfl
@[simp] theorem State.writeByte_dip (s : State) (a : Addr) (v : Byte) : (s.writeByte a v).dip = s.dip := rfl
@[simp] theorem State.writeByte_halt (s : State) (a : Addr) (v : Byte) : (s.writeByte a v).halt = s.halt := rfl
@[simp] theorem State.writeByte_divAcc (s : State) (a : Addr) (v : Byte) : (s.writeByte a v).divAcc = s.divAcc := rfl
@[simp] theorem State.writeByte_timaAcc (s : State) (a : Addr) (v : Byte) : (s.writeByte a v).timaAcc = s.timaAcc := rfl
@[simp] theorem State.writeByte_ovf (s : State) (a : Addr) (v : Byte) : (s.writeByte a v).ovf = s.ovf := rfl
@[simp] theorem State.writeByte_extIrq (s : State) (a : Addr) (v : Byte) : (s.writeByte a v).extIrq = s.extIrq := rfl
@[simp] theorem State.writeByte_reports (s : State) (a : Addr) (v : Byte) : (s.writeByte a v).reports = s.reports := rfl
@[simp] theorem State.writeByte_reg (s : State) (a : Addr) (v : Byte) (r : Reg8) : (s.writeByte a v).reg r = s.reg r := rfl

/-! `setPc` -/

@[simp] theorem State.setPc_regs (s : State) (v : Word) : (s.setPc v).regs = s.regs := rfl
@[simp] theorem State.setPc_flags (s : State) (v : Word) : (s.setPc v).flags = s.flags := rfl
@[simp] theorem State.setPc_sp (s : State) (v : Word) : (s.setPc v).sp = s.sp := rfl
@[simp] theorem State.setPc_pc (s : State) (v : Word) : (s.setPc v).pc = v := rfl
@[simp] theorem State.setPc_mem (s : State) (v : Word) : (s.setPc v).mem = s.mem := rfl
@[simp] theorem State.setPc_cyc (s : State) (v : Word) : (s.setPc v).cyc = s.cyc := rfl
@[simp] theorem State.setPc_ime (s : State) (v : Word) : (s.setPc v).ime = s.ime := rfl
@[simp] theorem State.setPc_dip (s : State) (v : Word) : (s.setPc v).dip = s.dip := rfl
@[simp] theorem State.setPc_halt (s : State) (v : Word) : (s.setPc v).halt = s.halt := rfl
@[simp] theorem State.setPc_divAcc (s : State) (v : Word) : (s.setPc v).divAcc = s.divAcc := rfl
@[simp] theorem State.setPc_timaAcc (s : State) (v : Word) : (s.setPc v).timaAcc = s.timaAcc := rfl
@[simp] theorem State.setPc_ovf (s : State) (v : Word) : (s.setPc v).ovf = s.ovf := rfl
@[simp] theorem State.setPc_extIrq (s : State) (v : Word) : (s.setPc v).extIrq = s.extIrq := rfl
@[simp] theorem State.setPc_reports (s : State) (v : Word) : (s.setPc v).reports = s.reports := rfl
@[simp] theorem State.setPc_reg (s : State) (v : Word) (r : Reg8) : (s.setPc v).reg r = s.reg r := rfl
@[simp] theorem State.setPc_readByte (s : State) (v : Word) (x : Addr) : (s.setPc v).readByte x = s.readByte x := rfl

/-! `setSp` -/

@[simp] theorem State.setSp_regs (s : State) (v : Word) : (s.setSp v).regs = s.regs := rfl
@[simp] theorem State.setSp_flags (s : State) (v : Word) : (s.setSp v).flags = s.flags := rfl
@[simp] theorem State.setSp_sp (s : State) (v : Word) : (s.setSp v).sp = v := rfl
@[simp] theorem State.setSp_pc (s : State) (v : Word) : (s.setSp v).pc = s.pc := rfl
@[simp] theorem State.setSp_mem (s : State) (v : Word) : (s.setSp v).mem = s.mem := rfl
@[simp] theorem State.setSp_cyc (s : State) (v : Word) : (s.setSp v).cyc = s.cyc := rfl
@[simp] theorem State.setSp_ime (s : State) (v : Word) : (s.setSp v).ime = s.ime := rfl
@[simp] theorem State.setSp_dip (s : State) (v : Word) : (s.setSp v).dip = s.dip := rfl
@[simp] theorem State.setSp_halt (s : State) (v : Word) : (s.setSp v).halt = s.halt := rfl
@[simp] theorem State.setSp_divAcc (s : State) (v : Word) : (s.setSp v).divAcc = s.divAcc := rfl
@[simp] theorem State.setSp_timaAcc (s : State) (v : Word) : (s.setSp v).timaAcc = s.timaAcc := rfl
@[simp] theorem State.setSp_ovf (s : State) (v : Word) : (s.setSp v).ovf = s.ovf := rfl
@[simp] theorem State.setSp_extIrq (s : State) (v : Word) : (s.setSp v).extIrq = s.extIrq := rfl
@[simp] theorem State.setSp_reports (s : State) (v : Word) : (s.setSp v).reports = s.reports := rfl
@[simp] theorem State.setSp_reg (s : State) (v : Word) (r : Reg8) : (s.setSp v).reg r = s.reg r := rfl
@[simp] theorem State.setSp_readByte (s : State) (v : Word) (x : Addr) : (s.setSp v).readByte x = s.readByte x := rfl

/-! `setFlags` -/

@[simp] theorem State.setFlags_regs (s : State) (f : Flags) : (s.setFlags f).regs = s.regs := rfl
@[simp] theorem State.setFlags_flags (s : State) (f : Flags) : (s.setFlags f).flags = f := rfl
@[simp] theorem State.setFlags_sp (s : State) (f : Flags) : (s.setFlags f).sp = s.sp := rfl
@[simp] theorem State.setFlags_pc (s : State) (f : Flags) : (s.setFlags f).pc = s.pc := rfl
@[simp] theorem State.setFlags_mem (s : State) (f : Flags) : (s.setFlags f).mem = s.mem := rfl
@[simp] theorem State.setFlags_cyc (s : State) (f : Flags) : (s.setFlags f).cyc = s.cyc := rfl
@[simp] theorem State.setFlags_ime (s : State) (f : Flags) : (s.setFlags f).ime = s.ime := rfl
@[simp] theorem State.setFlags_dip (s : State) (f : Flags) : (s.setFlags f).dip = s.dip := rfl
@[simp] theorem State.setFlags_halt (s : State) (f : Flags) : (s.setFlags f).halt = s.halt := rfl
@[simp] theorem State.setFlags_divAcc (s : State) (f : Flags) : (s.setFlags f).divAcc = s.divAcc := rfl
@[simp] theorem State.setFlags_timaAcc (s : State) (f : Flags) : (s.setFlags f).timaAcc = s.timaAcc := rfl
@[simp] theorem State.setFlags_ovf (s : State) (f : Flags) : (s.setFlags f).ovf = s.ovf := rfl
@[simp] theorem State.setFlags_extIrq (s : State) (f : Flags) : (s.setFlags f).extIrq = s.extIrq := rfl
@[simp] theorem State.setFlags_reports (s : State) (f : Flags) : (s.setFlags f).reports = s.reports := rfl
@[simp] theorem State.setFlags_reg (s : State) (f : Flags) (r : Reg8) : (s.setFlags f).reg r = s.reg r := rfl
@[simp] theorem State.setFlags_readByte (s : State) (f : Flags) (x : Addr) : (s.setFlags f).readByte x = s.readByte x := rfl

/-! `setIme` -/

@[simp] theorem State.setIme_regs (s : State) (v : Bool) : (s.setIme v).regs = s.regs := rfl
@[simp] theorem State.setIme_flags (s : State) (v : Bool) : (s.setIme v).flags = s.flags := rfl
@[simp] theorem State.setIme_sp (s : State) (v : Bool) : (s.setIme v).sp = s.sp := rfl
@[simp] theorem State.setIme_pc (s : State) (v : Bool) : (s.setIme v).pc = s.pc := rfl
@[simp] theorem State.setIme_mem (s : State) (v : Bool) : (s.setIme v).mem = s.mem := rfl
@[simp] theorem State.setIme_cyc (s : State) (v : Bool) : (s.setIme v).cyc = s.cyc := rfl
@[simp] theorem State.setIme_ime (s : State) (v : Bool) : (s.setIme v).ime = v := rfl
@[simp] theorem State.setIme_dip (s : State) (v : Bool) : (s.setIme v).dip = s.dip := rfl
@[simp] theorem State.setIme_halt (s : State) (v : Bool) : (s.setIme v).halt = s.halt := rfl
@[simp] theorem State.setIme_divAcc (s : State) (v : Bool) : (s.setIme v).divAcc = s.divAcc := rfl
@[simp] theorem State.setIme_timaAcc (s : State) (v : Bool) : (s.setIme v).timaAcc = s.timaAcc := rfl
@[simp] theorem State.setIme_ovf (s : State) (v : Bool) : (s.setIme v).ovf = s.ovf := rfl
@[simp] theorem State.setIme_extIrq (s : State) (v : Bool) : (s.setIme v).extIrq = s.extIrq := rfl
@[simp] theorem State.setIme_reports (s : State) (v : Bool) : (s.setIme v).reports = s.reports := rfl
@[simp] theorem State.setIme_reg (s : State) (v : Bool) (r : Reg8) : (s.setIme v).reg r = s.reg r := rfl
@[simp] theorem State.setIme_readByte (s : State) (v : Bool) (x : Addr) : (s.setIme v).readByte x = s.readByte x := rfl

/-! `setDip` -/

@[simp] theorem State.setDip_regs (s : State) (v : Bool) : (s.setDip v).regs = s.regs := rfl
@[simp] theorem State.setDip_flags (s : State) (v : Bool) : (s.setDip v).flags = s.flags := rfl
@[simp] theorem State.setDip_sp (s : State) (v : Bool) : (s.setDip v).sp = s.sp := rfl
@[simp] theorem State.setDip_pc (s : State) (v : Bool) : (s.setDip v).pc = s.pc := rfl
@[simp] theorem State.setDip_mem (s : State) (v : Bool) : (s.setDip v).mem = s.mem := rfl
@[simp] theorem State.setDip_cyc (s : State) (v : Bool) : (s.setDip v).cyc = s.cyc := rfl
@[simp] theorem State.setDip_ime (s : State) (v : Bool) : (s.setDip v).ime = s.ime := rfl
@[simp] theorem State.setDip_dip (s : State) (v : Bool) : (s.setDip v).dip = v := rfl
@[simp] theorem State.setDip_halt (s : State) (v : Bool) : (s.setDip v).halt = s.halt := rfl
@[simp] theorem State.setDip_divAcc (s : State) (v : Bool) : (s.setDip v).divAcc = s.divAcc := rfl
@[simp] theorem State.setDip_timaAcc (s : State) (v : Bool) : (s.setDip v).timaAcc = s.timaAcc := rfl
@[simp] theorem State.setDip_ovf (s : State) (v : Bool) : (s.setDip v).ovf = s.ovf := rfl
@[simp] theorem State.setDip_extIrq (s : State) (v : Bool) : (s.setDip v).extIrq = s.extIrq := rfl
@[simp] theorem State.setDip_reports (s : State) (v : Bool) : (s.setDip v).reports = s.reports := rfl
@[simp] theorem State.setDip_reg (s : State) (v : Bool) (r : Reg8) : (s.setDip v).reg r = s.reg r := rfl
@[simp] theorem State.setDip_readByte (s : State) (v : Bool) (x : Addr) : (s.setDip v).readByte x = s.readByte x := rfl

/-! `setHalt` -/

@[simp] theorem State.setHalt_regs (s : State) (v : Bool) : (s.setHalt v).regs = s.regs := rfl
@[simp] theorem State.setHalt_flags (s : State) (v : Bool) : (s.setHalt v).flags = s.flags := rfl
@[simp] theorem State.setHalt_sp (s : State) (v : Bool) : (s.setHalt v).sp = s.sp := rfl
@[simp] theorem State.setHalt_pc (s : State) (v : Bool) : (s.setHalt v).pc = s.pc := rfl
@[simp] theorem State.setHalt_mem (s : State) (v : Bool) : (s.setHalt v).mem = s.mem := rfl
@[simp] theorem State.setHalt_cyc (s : State) (v : Bool) : (s.setHalt v).cyc = s.cyc := rfl
@[simp] theorem State.setHalt_ime (s : State) (v : Bool) : (s.setHalt v).ime = s.ime := rfl
@[simp] theorem State.setHalt_dip (s : State) (v : Bool) : (s.setHalt v).dip = s.dip := rfl
@[simp] theorem State.setHalt_halt (s : State) (v : Bool) : (s.setHalt v).halt = v := rfl
@[simp] theorem State.setHalt_divAcc (s : State) (v : Bool) : (s.setHalt v).divAcc = s.divAcc := rfl
@[simp] theorem State.setHalt_timaAcc (s : State) (v : Bool) : (s.setHalt v).timaAcc = s.timaAcc := rfl
@[simp] theorem State.setHalt_ovf (s : State) (v : Bool) : (s.setHalt v).ovf = s.ovf := rfl
@[simp] theorem State.setHalt_extIrq (s : State) (v : Bool) : (s.setHalt v).extIrq = s.extIrq := rfl
@[simp] theorem State.setHalt_reports (s : State) (v : Bool) : (s.setHalt v).reports = s.reports := rfl
@[simp] theorem State.setHalt_reg (s : State) (v : Bool) (r : Reg8) : (s.setHalt v).reg r = s.reg r := rfl
@[simp] theorem State.setHalt_readByte (s : State) (v : Bool) (x : Addr) : (s.setHalt v).readByte x = s.readByte x := rfl

/-! `charge` -/

@[simp] theorem State.charge_regs (s : State) (n : Nat) : (s.charge n).regs = s.regs := rfl
@[simp] theorem State.charge_flags (s : State) (n : Nat) : (s.charge n).flags = s.flags := rfl
@[simp] theorem State.charge_sp (s : State) (n : Nat) : (s.charge n).sp = s.sp := rfl
@[simp] theorem State.charge_pc (s : State) (n : Nat) : (s.charge n).pc = s.pc := rfl
@[simp] theorem State.charge_mem (s : State) (n : Nat) : (s.charge n).mem = s.mem := rfl
@[simp] theorem State.charge_cyc (s : State) (n : Nat) : (s.charge n).cyc = s.cyc + BitVec.ofNat 64 n := rfl
@[simp] theorem State.charge_ime (s : State) (n : Nat) : (s.charge n).ime = s.ime := rfl
@[simp] theorem State.charge_dip (s : State) (n : Nat) : (s.charge n).dip = s.dip := rfl
@[simp] theorem State.charge_halt (s : State) (n : Nat) : (s.charge n).halt = s.halt := rfl
@[simp] theorem State.charge_divAcc (s : State) (n : Nat) : (s.charge n).divAcc = s.divAcc := rfl
@[simp] theorem State.charge_timaAcc (s : State) (n : Nat) : (s.charge n).timaAcc = s.timaAcc := rfl
@[simp] theorem State.charge_ovf (s : State) (n : Nat) : (s.charge n).ovf = s.ovf := rfl
@[simp] theorem State.charge_extIrq (s : State) (n : Nat) : (s.charge n).extIrq = s.extIrq := rfl
@[simp] theorem State.charge_reports (s : State) (n : Nat) : (s.charge n).reports = s.reports := rfl
@[simp] theorem State.charge_reg (s : State) (n : Nat) (r : Reg8) : (s.charge n).reg r = s.reg r := rfl
@[simp] theorem State.charge_readByte (s : State) (n : Nat) (x : Addr) : (s.charge n).readByte x = s.readByte x := rfl

/-! `report` -/

@[simp] theorem State.report_regs (s : State) (op : Byte) : (s.report op).regs = s.regs := rfl
@[simp] theorem State.report_flags (s : State) (op : Byte) : (s.report op).flags = s.flags := rfl
@[simp] theorem State.report_sp (s : State) (op : Byte) : (s.report op).sp = s.sp := rfl
@[simp] theorem State.report_pc (s : State) (op : Byte) : (s.report op).pc = s.pc := rfl
@[simp] theorem State.report_mem (s : State) (op : Byte) : (s.report op).mem = s.mem := rfl
@[simp] theorem State.report_cyc (s : State) (op : Byte) : (s.report op).cyc = s.cyc := rfl
@[simp] theorem State.report_ime (s : State) (op : Byte) : (s.report op).ime = s.ime := rfl
@[simp] theorem State.report_dip (s : State) (op : Byte) : (s.report op).dip = s.dip := rfl
@[simp] theorem State.report_halt (s : State) (op : Byte) : (s.report op).halt = s.halt := rfl
@[simp] theorem State.report_divAcc (s : State) (op : Byte) : (s.report op).divAcc = s.divAcc := rfl
@[simp] theorem State.report_timaAcc (s : State) (op : Byte) : (s.report op).timaAcc = s.timaAcc := rfl
@[simp] theorem State.report_ovf (s : State) (op : Byte) : (s.report op).ovf = s.ovf := rfl
@[simp] theorem State.report_extIrq (s : State) (op : Byte) : (s.report op).extIrq = s.extIrq := rfl
@[simp] theorem State.report_reports (s : State) (op : Byte) : (s.report op).reports = ⟨op, s.pc - 1#16⟩ :: s.reports := rfl
@[simp] theorem State.report_reg (s : State) (op : Byte) (r : Reg8) : (s.report op).reg r = s.reg r := rfl
@[simp] theorem State.report_readByte (s : State) (op : Byte) (x : Addr) : (s.report op).readByte x = s.readByte x := rfl

/-! `setReg` -/

@[simp] theorem State.setReg_regs (s : State) (i : Reg8) (v : Byte) : (s.setReg i v).regs = s.regs.set i v := rfl
@[simp] theorem State.setReg_flags (s : State) (i : Reg8) (v : Byte) : (s.setReg i v).flags = s.flags := rfl
@[simp] theorem State.setReg_sp (s : State) (i : Reg8) (v : Byte) : (s.setReg i v).sp = s.sp := rfl
@[simp] theorem State.setReg_pc (s : State) (i : Reg8) (v : Byte) : (s.setReg i v).pc = s.pc := rfl
@[simp] theorem State.setReg_mem (s : State) (i : Reg8) (v : Byte) : (s.setReg i v).mem = s.mem := rfl
@[simp] theorem State.setReg_cyc (s : State) (i : Reg8) (v : Byte) : (s.setReg i v).cyc = s.cyc := rfl
@[simp] theorem State.setReg_ime (s : State) (i : Reg8) (v : Byte) : (s.setReg i v).ime = s.ime := rfl
@[simp] theorem State.setReg_dip (s : State) (i : Reg8) (v : Byte) : (s.setReg i v).dip = s.dip := rfl
@[simp] theorem State.setReg_halt (s : State) (i : Reg8) (v : Byte) : (s.setReg i v).halt = s.halt := rfl
@[simp] theorem State.setReg_divAcc (s : State) (i : Reg8) (v : Byte) : (s.setReg i v).divAcc = s.divAcc := rfl
@[simp] theorem State.setReg_timaAcc (s : State) (i : Reg8) (v : Byte) : (s.setReg i v).timaAcc = s.timaAcc := rfl
@[simp] theorem State.setReg_ovf (s : State) (i : Reg8) (v : Byte) : (s.setReg i v).ovf = s.ovf := rfl
@[simp] theorem State.setReg_extIrq (s : State) (i : Reg8) (v : Byte) : (s.setReg i v).extIrq = s.extIrq := rfl
@[simp] theorem State.setReg_reports (s : State) (i : Reg8) (v : Byte) : (s.setReg i v).reports = s.reports := rfl
@[simp] theorem State.setReg_readByte (s : State) (i : Reg8) (v : Byte) (x : Addr) : (s.setReg i v).readByte x = s.readByte x := rfl

/-! `dropExtIrq` -/

@[simp] theorem State.dropExtIrq_regs (s : State) : (s.dropExtIrq).regs = s.regs := rfl
@[simp] theorem State.dropExtIrq_flags (s : State) : (s.dropExtIrq).flags = s.flags := rfl
@[simp] theorem State.dropExtIrq_sp (s : State) : (s.dropExtIrq).sp = s.sp := rfl
@[simp] theorem State.dropExtIrq_pc (s : State) : (s.dropExtIrq).pc = s.pc := rfl
@[simp] theorem State.dropExtIrq_mem (s : State) : (s.dropExtIrq).mem = s.mem := rfl
@[simp] theorem State.dropExtIrq_cyc (s : State) : (s.dropExtIrq).cyc = s.cyc := rfl
@[simp] theorem State.dropExtIrq_ime (s : State) : (s.dropExtIrq).ime = s.ime := rfl
@[simp] theorem State.dropExtIrq_dip (s : State) : (s.dropExtIrq).dip = s.dip := rfl
@[simp] theorem State.dropExtIrq_halt (s : State) : (s.dropExtIrq).halt = s.halt := rfl
@[simp] theorem State.dropExtIrq_divAcc (s : State) : (s.dropExtIrq).divAcc = s.divAcc := rfl
@[simp] theorem State.dropExtIrq_timaAcc (s : State) : (s.dropExtIrq).timaAcc = s.timaAcc := rfl
@[simp] theorem State.dropExtIrq_ovf (s : State) : (s.dropExtIrq).ovf = s.ovf := rfl
@[simp] theorem State.dropExtIrq_extIrq (s : State) : (s.dropExtIrq).extIrq = s.extIrq.tail := rfl
@[simp] theorem State.dropExtIrq_reports (s : State) : (s.dropExtIrq).reports = s.reports := rfl
@[simp] theorem State.dropExtIrq_reg (s : State) (r : Reg8) : (s.dropExtIrq).reg r = s.reg r := rfl
@[simp] theorem State.dropExtIrq_readByte (s : State) (x : Addr) : (s.dropExtIrq).readByte x = s.readByte x := rfl

/-! Registers -/

/-- A written register reads back, and no other register changes (rule R20). -/
@[simp] theorem Regs.get_set (r : Regs) (i j : Reg8) (v : Byte) :
    (r.set i v).get j = if j = i then v else r.get j := by
  cases i <;> cases j <;> rfl

/-- A written register reads back, and no other register changes (rule R20). -/
@[simp] theorem State.setReg_reg (s : State) (i j : Reg8) (v : Byte) :
    (s.setReg i v).reg j = if j = i then v else s.reg j := Regs.get_set ..

/-- Two register files that agree on every register are equal. -/
theorem Regs.ext_get {r r' : Regs} (h : ∀ i, r.get i = r'.get i) : r = r' := by
  have hb := h .b
  have hc := h .c
  have hd := h .d
  have he := h .e
  have hh := h .h
  have hl := h .l
  have ha := h .a
  cases r
  cases r'
  simp_all [Regs.get]

end Sys2Proof.Machine
end

