-- ==== Sys2Proof/Laws/Memory.lean ====
section
/-! SUPPORT. Memory: a write is seen by a read of the same address and by no other (rules R60, R61), and
every operation keeps the canonical form. -/

namespace Sys2Proof.Machine

theorem Memory.byteAt_unlist (m : Memory) (k j : Nat) :
    (m.unlist k).byteAt j = if j = k then Config.unlistedByte else m.byteAt j := by
  induction m with
  | nil => simp [Memory.unlist, Memory.byteAt]
  | cons p rest ih =>
    rw [Memory.unlist] at ih ⊢
    rw [List.filter_cons]
    by_cases hp : p.1 = k
    · have : (p.1 != k) = false := by simp [hp]
      rw [this, if_neg (by simp), ih, Memory.byteAt]
      by_cases hj : j = k
      · simp [hj]
      · rw [if_neg hj, if_neg hj, if_neg (by omega)]
    · have : (p.1 != k) = true := by simp [hp]
      rw [this, if_pos rfl, Memory.byteAt, Memory.byteAt, ih]
      by_cases hj : p.1 = j
      · rw [if_pos hj, if_pos hj, if_neg (by omega)]
      · rw [if_neg hj, if_neg hj]

theorem Memory.byteAt_insertByte (m : Memory) (k j : Nat) (v : Byte)
    (h : ∀ p ∈ m, p.1 ≠ k) :
    (m.insertByte k v).byteAt j = if j = k then v else m.byteAt j := by
  induction m with
  | nil =>
    by_cases hj : j = k
    · simp [Memory.insertByte, Memory.byteAt, hj]
    · rw [if_neg hj]
      simp [Memory.insertByte, Memory.byteAt, Ne.symm hj]
  | cons p rest ih =>
    have hp : p.1 ≠ k := h p (by simp)
    have ih := ih fun q hq => h q (by simp [hq])
    rw [Memory.insertByte]
    by_cases hlt : k < p.1
    · rw [if_pos hlt, Memory.byteAt]
      by_cases hj : j = k
      · simp [hj]
      · rw [if_neg (by omega), if_neg hj]
    · rw [if_neg hlt, Memory.byteAt, Memory.byteAt, ih]
      by_cases hj : p.1 = j
      · rw [if_pos hj, if_pos hj, if_neg (by omega)]
      · rw [if_neg hj, if_neg hj]

theorem Memory.mem_unlist {m : Memory} {k : Nat} {p : Host.Cell} :
    p ∈ m.unlist k ↔ p ∈ m ∧ p.1 ≠ k := by
  simp [Memory.unlist]

/-- What one byte written changes: that byte (rules R60, R61). -/
theorem Memory.byteAt_store (m : Memory) (k j : Nat) (v : Byte) :
    (m.store k v).byteAt j = if j = k then v else m.byteAt j := by
  rw [Memory.store]
  by_cases hv : v = Config.unlistedByte
  · rw [if_pos hv, Memory.byteAt_unlist, hv]
  · rw [if_neg hv, Memory.byteAt_insertByte _ _ _ _ (fun p hp => (Memory.mem_unlist.mp hp).2),
      Memory.byteAt_unlist]
    by_cases hj : j = k
    · rw [if_pos hj, if_pos hj]
    · rw [if_neg hj, if_neg hj, if_neg hj]

theorem Memory.mem_insertByte {m : Memory} {k : Nat} {v : Byte} {p : Host.Cell} :
    p ∈ m.insertByte k v ↔ p = (k, v) ∨ p ∈ m := by
  induction m with
  | nil => simp [Memory.insertByte]
  | cons q rest ih =>
    rw [Memory.insertByte]
    by_cases h : k < q.1
    · simp [if_pos h]
    · rw [if_neg h, List.mem_cons, ih, List.mem_cons]
      tauto

theorem Memory.pairwise_insertByte {m : Memory} {k : Nat} {v : Byte}
    (hm : m.Pairwise fun p q => p.1 < q.1) (h : ∀ p ∈ m, p.1 ≠ k) :
    (m.insertByte k v).Pairwise fun p q => p.1 < q.1 := by
  induction m with
  | nil => simp [Memory.insertByte]
  | cons q rest ih =>
    rw [List.pairwise_cons] at hm
    have hq : q.1 ≠ k := h q (by simp)
    rw [Memory.insertByte]
    by_cases hlt : k < q.1
    · rw [if_pos hlt, List.pairwise_cons, List.pairwise_cons]
      refine ⟨fun p hp => ?_, hm⟩
      rcases List.mem_cons.mp hp with rfl | hp
      · exact hlt
      · exact Nat.lt_trans hlt (hm.1 p hp)
    · rw [if_neg hlt, List.pairwise_cons]
      refine ⟨fun p hp => ?_, ih hm.2 fun p hp => h p (by simp [hp])⟩
      rcases Memory.mem_insertByte.mp hp with rfl | hp
      · show q.1 < k
        omega
      · exact hm.1 p hp

/-- A write keeps the canonical form. -/
theorem Memory.wf_store {m : Memory} (hm : m.wf) {k : Nat} (hk : k < 65536) (v : Byte) :
    (m.store k v).wf := by
  have hu : (m.unlist k).wf :=
    ⟨hm.1.filter _, fun p hp => hm.2 p (Memory.mem_unlist.mp hp).1⟩
  rw [Memory.store]
  by_cases hv : v = Config.unlistedByte
  · rw [if_pos hv]
    exact hu
  · rw [if_neg hv]
    refine ⟨Memory.pairwise_insertByte hu.1 fun p hp => (Memory.mem_unlist.mp hp).2, fun p hp => ?_⟩
    rcases Memory.mem_insertByte.mp hp with rfl | hp
    · exact ⟨hk, hv⟩
    · exact hu.2 p hp

/-- A byte written reads back, and no other byte changes (rules R60, R61). -/
@[simp] theorem State.readByte_writeByte (s : State) (a x : Addr) (v : Byte) :
    (s.writeByte a v).readByte x = if x = a then v else s.readByte x := by
  show (s.mem.store a.toNat v).byteAt x.toNat = _
  rw [Memory.byteAt_store]
  by_cases h : x = a
  · simp [h]
  · rw [if_neg h, if_neg fun h' => h (BitVec.eq_of_toNat_eq h')]
    rfl

/-- `MemWrite(addr, 1, v)` keeps the canonical form. -/
theorem State.wf_writeByte {s : State} (h : s.mem.wf) (a : Addr) (v : Byte) :
    (s.writeByte a v).mem.wf := Memory.wf_store h a.isLt v

/-- Two canonical memories that read the same everywhere are the same list. -/
theorem Memory.ext_byteAt {m m' : Memory} (hm : m.wf) (hm' : m'.wf)
    (h : ∀ k, m.byteAt k = m'.byteAt k) : m = m' := by
  have key : ∀ {n : Memory}, n.wf → ∀ {k : Nat} {v : Byte}, (k, v) ∈ n → n.byteAt k = v := by
    intro n hn
    induction n with
    | nil => simp
    | cons q rest ih =>
      intro k v hkv
      have hn' : Memory.wf rest := ⟨(List.pairwise_cons.mp hn.1).2, fun p hp => hn.2 p (by simp [hp])⟩
      rcases List.mem_cons.mp hkv with rfl | hkv
      · simp [Memory.byteAt]
      · have := (List.pairwise_cons.mp hn.1).1 _ hkv
        rw [Memory.byteAt, if_neg (by simp at this; omega)]
        exact ih hn' hkv
  have absent : ∀ {n : Memory} {k : Nat}, (∀ v, (k, v) ∉ n) → n.byteAt k = Config.unlistedByte := by
    intro n k
    induction n with
    | nil => intro _; rfl
    | cons q rest ih =>
      intro hk
      have hq : q.1 ≠ k := by
        rintro rfl
        exact hk q.2 (by simp)
      rw [Memory.byteAt, if_neg hq]
      exact ih fun v hv => hk v (by simp [hv])
  have sub : ∀ {n n' : Memory}, n.wf → n'.wf → (∀ k, n.byteAt k = n'.byteAt k) →
      ∀ p ∈ n, p ∈ n' := by
    intro n n' hn hn' hh p hp
    have hne := (hn.2 p hp).2
    have hv := key hn (k := p.1) (v := p.2) hp
    by_contra hc
    apply hne
    by_cases hex : ∃ w, (p.1, w) ∈ n'
    · obtain ⟨w, hw⟩ := hex
      have := key hn' hw
      have hpw : p.2 = w := by rw [← hv, hh, this]
      exact absurd (by rw [← hpw] at hw; exact hw) hc
    · rw [← hv, hh, absent fun w hw => hex ⟨w, hw⟩]
  refine List.Perm.eq_of_pairwise' (r := fun p q => p.1 < q.1) ?_ ?_ ?_
  all_goals first | exact hm.1 | exact hm'.1 | skip
  exact (List.perm_ext_iff_of_nodup (hm.1.imp fun h he => by rw [he] at h; exact Nat.lt_irrefl _ h)
    (hm'.1.imp fun h he => by rw [he] at h; exact Nat.lt_irrefl _ h)).mpr
    fun p => ⟨sub hm hm' h p, sub hm' hm (fun k => (h k).symm) p⟩

end Sys2Proof.Machine
end

