-- ==== Sys2Proof/Laws/Ops.lean ====
section
/-! SUPPORT. What each shared operation does, and what it leaves unchanged. -/

namespace Sys2Proof.Machine

/-! `writeWord` -/

@[simp] theorem State.writeWord_regs (s : State) (a : Addr) (v : Word) : (s.writeWord a v).regs = s.regs := rfl
@[simp] theorem State.writeWord_flags (s : State) (a : Addr) (v : Word) : (s.writeWord a v).flags = s.flags := rfl
@[simp] theorem State.writeWord_sp (s : State) (a : Addr) (v : Word) : (s.writeWord a v).sp = s.sp := rfl
@[simp] theorem State.writeWord_pc (s : State) (a : Addr) (v : Word) : (s.writeWord a v).pc = s.pc := rfl
@[simp] theorem State.writeWord_cyc (s : State) (a : Addr) (v : Word) : (s.writeWord a v).cyc = s.cyc := rfl
@[simp] theorem State.writeWord_ime (s : State) (a : Addr) (v : Word) : (s.writeWord a v).ime = s.ime := rfl
@[simp] theorem State.writeWord_dip (s : State) (a : Addr) (v : Word) : (s.writeWord a v).dip = s.dip := rfl
@[simp] theorem State.writeWord_halt (s : State) (a : Addr) (v : Word) : (s.writeWord a v).halt = s.halt := rfl
@[simp] theorem State.writeWord_divAcc (s : State) (a : Addr) (v : Word) : (s.writeWord a v).divAcc = s.divAcc := rfl
@[simp] theorem State.writeWord_timaAcc (s : State) (a : Addr) (v : Word) : (s.writeWord a v).timaAcc = s.timaAcc := rfl
@[simp] theorem State.writeWord_ovf (s : State) (a : Addr) (v : Word) : (s.writeWord a v).ovf = s.ovf := rfl
@[simp] theorem State.writeWord_extIrq (s : State) (a : Addr) (v : Word) : (s.writeWord a v).extIrq = s.extIrq := rfl
@[simp] theorem State.writeWord_reports (s : State) (a : Addr) (v : Word) : (s.writeWord a v).reports = s.reports := rfl
@[simp] theorem State.writeWord_reg (s : State) (a : Addr) (v : Word) (r : Reg8) :
    (s.writeWord a v).reg r = s.reg r := rfl

/-- The two bytes of a 16-bit store, low byte at the lower address (rule R63). -/
theorem State.readByte_writeWord (s : State) (a x : Addr) (v : Word) :
    (s.writeWord a v).readByte x =
      if x = a + 1#16 then hiByte v else if x = a then loByte v else s.readByte x := by
  simp [State.writeWord]

/-! `push16` -/

@[simp] theorem State.push16_regs (s : State) (v : Word) : (s.push16 v).regs = s.regs := rfl
@[simp] theorem State.push16_flags (s : State) (v : Word) : (s.push16 v).flags = s.flags := rfl
@[simp] theorem State.push16_sp (s : State) (v : Word) : (s.push16 v).sp = s.sp - 2#16 := rfl
@[simp] theorem State.push16_pc (s : State) (v : Word) : (s.push16 v).pc = s.pc := rfl
@[simp] theorem State.push16_cyc (s : State) (v : Word) : (s.push16 v).cyc = s.cyc := rfl
@[simp] theorem State.push16_ime (s : State) (v : Word) : (s.push16 v).ime = s.ime := rfl
@[simp] theorem State.push16_dip (s : State) (v : Word) : (s.push16 v).dip = s.dip := rfl
@[simp] theorem State.push16_halt (s : State) (v : Word) : (s.push16 v).halt = s.halt := rfl
@[simp] theorem State.push16_divAcc (s : State) (v : Word) : (s.push16 v).divAcc = s.divAcc := rfl
@[simp] theorem State.push16_timaAcc (s : State) (v : Word) : (s.push16 v).timaAcc = s.timaAcc := rfl
@[simp] theorem State.push16_ovf (s : State) (v : Word) : (s.push16 v).ovf = s.ovf := rfl
@[simp] theorem State.push16_extIrq (s : State) (v : Word) : (s.push16 v).extIrq = s.extIrq := rfl
@[simp] theorem State.push16_reports (s : State) (v : Word) : (s.push16 v).reports = s.reports := rfl
@[simp] theorem State.push16_reg (s : State) (v : Word) (r : Reg8) : (s.push16 v).reg r = s.reg r := rfl

/-- The two bytes of a push (rule R180): the low byte at SP-2, the high byte at SP-1. -/
theorem State.readByte_push16 (s : State) (v : Word) (x : Addr) :
    (s.push16 v).readByte x =
      if x = s.sp - 2#16 then loByte v else if x = s.sp - 1#16 then hiByte v else s.readByte x := by
  simp [State.push16]

/-- A push keeps the canonical form of memory. -/
theorem State.wf_push16 {s : State} (h : s.mem.wf) (v : Word) : (s.push16 v).mem.wf :=
  State.wf_writeByte (State.wf_writeByte h _ _) _ _

/-- The round-trip law of rule R180, the value. -/
theorem State.popValue_push16 (s : State) (v : Word) : (s.push16 v).popValue = v := by
  have h1 : s.sp - 2#16 + 1#16 = s.sp - 1#16 := by bv_omega
  have h2 : s.sp - 1#16 ≠ s.sp - 2#16 := by bv_omega
  simp [State.popValue, State.readByte_push16, h1, h2]

/-! `popSp` -/

@[simp] theorem State.popSp_regs (s : State) : (s.popSp).regs = s.regs := rfl
@[simp] theorem State.popSp_flags (s : State) : (s.popSp).flags = s.flags := rfl
@[simp] theorem State.popSp_sp (s : State) : (s.popSp).sp = s.sp + 2#16 := rfl
@[simp] theorem State.popSp_pc (s : State) : (s.popSp).pc = s.pc := rfl
@[simp] theorem State.popSp_mem (s : State) : (s.popSp).mem = s.mem := rfl
@[simp] theorem State.popSp_cyc (s : State) : (s.popSp).cyc = s.cyc := rfl
@[simp] theorem State.popSp_ime (s : State) : (s.popSp).ime = s.ime := rfl
@[simp] theorem State.popSp_dip (s : State) : (s.popSp).dip = s.dip := rfl
@[simp] theorem State.popSp_halt (s : State) : (s.popSp).halt = s.halt := rfl
@[simp] theorem State.popSp_divAcc (s : State) : (s.popSp).divAcc = s.divAcc := rfl
@[simp] theorem State.popSp_timaAcc (s : State) : (s.popSp).timaAcc = s.timaAcc := rfl
@[simp] theorem State.popSp_ovf (s : State) : (s.popSp).ovf = s.ovf := rfl
@[simp] theorem State.popSp_extIrq (s : State) : (s.popSp).extIrq = s.extIrq := rfl
@[simp] theorem State.popSp_reports (s : State) : (s.popSp).reports = s.reports := rfl
@[simp] theorem State.popSp_reg (s : State) (r : Reg8) : s.popSp.reg r = s.reg r := rfl
@[simp] theorem State.popSp_readByte (s : State) (x : Addr) : s.popSp.readByte x = s.readByte x := rfl

/-! `returnPc` -/

@[simp] theorem State.returnPc_regs (s : State) : (s.returnPc).regs = s.regs := rfl
@[simp] theorem State.returnPc_flags (s : State) : (s.returnPc).flags = s.flags := rfl
@[simp] theorem State.returnPc_sp (s : State) : (s.returnPc).sp = s.sp + 2#16 := rfl
@[simp] theorem State.returnPc_pc (s : State) : (s.returnPc).pc = s.popValue := rfl
@[simp] theorem State.returnPc_mem (s : State) : (s.returnPc).mem = s.mem := rfl
@[simp] theorem State.returnPc_cyc (s : State) : (s.returnPc).cyc = s.cyc := rfl
@[simp] theorem State.returnPc_ime (s : State) : (s.returnPc).ime = s.ime := rfl
@[simp] theorem State.returnPc_dip (s : State) : (s.returnPc).dip = s.dip := rfl
@[simp] theorem State.returnPc_halt (s : State) : (s.returnPc).halt = s.halt := rfl
@[simp] theorem State.returnPc_divAcc (s : State) : (s.returnPc).divAcc = s.divAcc := rfl
@[simp] theorem State.returnPc_timaAcc (s : State) : (s.returnPc).timaAcc = s.timaAcc := rfl
@[simp] theorem State.returnPc_ovf (s : State) : (s.returnPc).ovf = s.ovf := rfl
@[simp] theorem State.returnPc_extIrq (s : State) : (s.returnPc).extIrq = s.extIrq := rfl
@[simp] theorem State.returnPc_reports (s : State) : (s.returnPc).reports = s.reports := rfl
@[simp] theorem State.returnPc_reg (s : State) (r : Reg8) : s.returnPc.reg r = s.reg r := rfl
@[simp] theorem State.returnPc_readByte (s : State) (x : Addr) : s.returnPc.readByte x = s.readByte x := rfl

/-! `setRegs` -/

@[simp] theorem State.setRegs_flags (s : State) (hi lo : Reg8) (v : Word) : (s.setRegs hi lo v).flags = s.flags := rfl
@[simp] theorem State.setRegs_sp (s : State) (hi lo : Reg8) (v : Word) : (s.setRegs hi lo v).sp = s.sp := rfl
@[simp] theorem State.setRegs_pc (s : State) (hi lo : Reg8) (v : Word) : (s.setRegs hi lo v).pc = s.pc := rfl
@[simp] theorem State.setRegs_mem (s : State) (hi lo : Reg8) (v : Word) : (s.setRegs hi lo v).mem = s.mem := rfl
@[simp] theorem State.setRegs_cyc (s : State) (hi lo : Reg8) (v : Word) : (s.setRegs hi lo v).cyc = s.cyc := rfl
@[simp] theorem State.setRegs_ime (s : State) (hi lo : Reg8) (v : Word) : (s.setRegs hi lo v).ime = s.ime := rfl
@[simp] theorem State.setRegs_dip (s : State) (hi lo : Reg8) (v : Word) : (s.setRegs hi lo v).dip = s.dip := rfl
@[simp] theorem State.setRegs_halt (s : State) (hi lo : Reg8) (v : Word) : (s.setRegs hi lo v).halt = s.halt := rfl
@[simp] theorem State.setRegs_divAcc (s : State) (hi lo : Reg8) (v : Word) : (s.setRegs hi lo v).divAcc = s.divAcc := rfl
@[simp] theorem State.setRegs_timaAcc (s : State) (hi lo : Reg8) (v : Word) : (s.setRegs hi lo v).timaAcc = s.timaAcc := rfl
@[simp] theorem State.setRegs_ovf (s : State) (hi lo : Reg8) (v : Word) : (s.setRegs hi lo v).ovf = s.ovf := rfl
@[simp] theorem State.setRegs_extIrq (s : State) (hi lo : Reg8) (v : Word) : (s.setRegs hi lo v).extIrq = s.extIrq := rfl
@[simp] theorem State.setRegs_reports (s : State) (hi lo : Reg8) (v : Word) : (s.setRegs hi lo v).reports = s.reports := rfl
@[simp] theorem State.setRegs_reg (s : State) (hi lo r : Reg8) (v : Word) :
    (s.setRegs hi lo v).reg r = if r = lo then loByte v else if r = hi then hiByte v else s.reg r := by
  simp [State.setRegs]
@[simp] theorem State.setRegs_readByte (s : State) (hi lo : Reg8) (v : Word) (x : Addr) :
    (s.setRegs hi lo v).readByte x = s.readByte x := rfl

/-! `setBc` -/

@[simp] theorem State.setBc_flags (s : State) (v : Word) : (s.setBc v).flags = s.flags := rfl
@[simp] theorem State.setBc_sp (s : State) (v : Word) : (s.setBc v).sp = s.sp := rfl
@[simp] theorem State.setBc_pc (s : State) (v : Word) : (s.setBc v).pc = s.pc := rfl
@[simp] theorem State.setBc_mem (s : State) (v : Word) : (s.setBc v).mem = s.mem := rfl
@[simp] theorem State.setBc_cyc (s : State) (v : Word) : (s.setBc v).cyc = s.cyc := rfl
@[simp] theorem State.setBc_ime (s : State) (v : Word) : (s.setBc v).ime = s.ime := rfl
@[simp] theorem State.setBc_dip (s : State) (v : Word) : (s.setBc v).dip = s.dip := rfl
@[simp] theorem State.setBc_halt (s : State) (v : Word) : (s.setBc v).halt = s.halt := rfl
@[simp] theorem State.setBc_divAcc (s : State) (v : Word) : (s.setBc v).divAcc = s.divAcc := rfl
@[simp] theorem State.setBc_timaAcc (s : State) (v : Word) : (s.setBc v).timaAcc = s.timaAcc := rfl
@[simp] theorem State.setBc_ovf (s : State) (v : Word) : (s.setBc v).ovf = s.ovf := rfl
@[simp] theorem State.setBc_extIrq (s : State) (v : Word) : (s.setBc v).extIrq = s.extIrq := rfl
@[simp] theorem State.setBc_reports (s : State) (v : Word) : (s.setBc v).reports = s.reports := rfl
@[simp] theorem State.setBc_reg (s : State) (r : Reg8) (v : Word) :
    (s.setBc v).reg r = if r = .c then loByte v else if r = .b then hiByte v else s.reg r :=
  State.setRegs_reg ..
@[simp] theorem State.setBc_readByte (s : State) (v : Word) (x : Addr) :
    (s.setBc v).readByte x = s.readByte x := rfl

/-! `setDe` -/

@[simp] theorem State.setDe_flags (s : State) (v : Word) : (s.setDe v).flags = s.flags := rfl
@[simp] theorem State.setDe_sp (s : State) (v : Word) : (s.setDe v).sp = s.sp := rfl
@[simp] theorem State.setDe_pc (s : State) (v : Word) : (s.setDe v).pc = s.pc := rfl
@[simp] theorem State.setDe_mem (s : State) (v : Word) : (s.setDe v).mem = s.mem := rfl
@[simp] theorem State.setDe_cyc (s : State) (v : Word) : (s.setDe v).cyc = s.cyc := rfl
@[simp] theorem State.setDe_ime (s : State) (v : Word) : (s.setDe v).ime = s.ime := rfl
@[simp] theorem State.setDe_dip (s : State) (v : Word) : (s.setDe v).dip = s.dip := rfl
@[simp] theorem State.setDe_halt (s : State) (v : Word) : (s.setDe v).halt = s.halt := rfl
@[simp] theorem State.setDe_divAcc (s : State) (v : Word) : (s.setDe v).divAcc = s.divAcc := rfl
@[simp] theorem State.setDe_timaAcc (s : State) (v : Word) : (s.setDe v).timaAcc = s.timaAcc := rfl
@[simp] theorem State.setDe_ovf (s : State) (v : Word) : (s.setDe v).ovf = s.ovf := rfl
@[simp] theorem State.setDe_extIrq (s : State) (v : Word) : (s.setDe v).extIrq = s.extIrq := rfl
@[simp] theorem State.setDe_reports (s : State) (v : Word) : (s.setDe v).reports = s.reports := rfl
@[simp] theorem State.setDe_reg (s : State) (r : Reg8) (v : Word) :
    (s.setDe v).reg r = if r = .e then loByte v else if r = .d then hiByte v else s.reg r :=
  State.setRegs_reg ..
@[simp] theorem State.setDe_readByte (s : State) (v : Word) (x : Addr) :
    (s.setDe v).readByte x = s.readByte x := rfl

/-! `setHl` -/

@[simp] theorem State.setHl_flags (s : State) (v : Word) : (s.setHl v).flags = s.flags := rfl
@[simp] theorem State.setHl_sp (s : State) (v : Word) : (s.setHl v).sp = s.sp := rfl
@[simp] theorem State.setHl_pc (s : State) (v : Word) : (s.setHl v).pc = s.pc := rfl
@[simp] theorem State.setHl_mem (s : State) (v : Word) : (s.setHl v).mem = s.mem := rfl
@[simp] theorem State.setHl_cyc (s : State) (v : Word) : (s.setHl v).cyc = s.cyc := rfl
@[simp] theorem State.setHl_ime (s : State) (v : Word) : (s.setHl v).ime = s.ime := rfl
@[simp] theorem State.setHl_dip (s : State) (v : Word) : (s.setHl v).dip = s.dip := rfl
@[simp] theorem State.setHl_halt (s : State) (v : Word) : (s.setHl v).halt = s.halt := rfl
@[simp] theorem State.setHl_divAcc (s : State) (v : Word) : (s.setHl v).divAcc = s.divAcc := rfl
@[simp] theorem State.setHl_timaAcc (s : State) (v : Word) : (s.setHl v).timaAcc = s.timaAcc := rfl
@[simp] theorem State.setHl_ovf (s : State) (v : Word) : (s.setHl v).ovf = s.ovf := rfl
@[simp] theorem State.setHl_extIrq (s : State) (v : Word) : (s.setHl v).extIrq = s.extIrq := rfl
@[simp] theorem State.setHl_reports (s : State) (v : Word) : (s.setHl v).reports = s.reports := rfl
@[simp] theorem State.setHl_reg (s : State) (r : Reg8) (v : Word) :
    (s.setHl v).reg r = if r = .l then loByte v else if r = .h then hiByte v else s.reg r :=
  State.setRegs_reg ..
@[simp] theorem State.setHl_readByte (s : State) (v : Word) (x : Addr) :
    (s.setHl v).readByte x = s.readByte x := rfl

/-! `setAf` -/

@[simp] theorem State.setAf_flags (s : State) (v : Word) : (s.setAf v).flags = .ofByte (loByte v) := rfl
@[simp] theorem State.setAf_sp (s : State) (v : Word) : (s.setAf v).sp = s.sp := rfl
@[simp] theorem State.setAf_pc (s : State) (v : Word) : (s.setAf v).pc = s.pc := rfl
@[simp] theorem State.setAf_mem (s : State) (v : Word) : (s.setAf v).mem = s.mem := rfl
@[simp] theorem State.setAf_cyc (s : State) (v : Word) : (s.setAf v).cyc = s.cyc := rfl
@[simp] theorem State.setAf_ime (s : State) (v : Word) : (s.setAf v).ime = s.ime := rfl
@[simp] theorem State.setAf_dip (s : State) (v : Word) : (s.setAf v).dip = s.dip := rfl
@[simp] theorem State.setAf_halt (s : State) (v : Word) : (s.setAf v).halt = s.halt := rfl
@[simp] theorem State.setAf_divAcc (s : State) (v : Word) : (s.setAf v).divAcc = s.divAcc := rfl
@[simp] theorem State.setAf_timaAcc (s : State) (v : Word) : (s.setAf v).timaAcc = s.timaAcc := rfl
@[simp] theorem State.setAf_ovf (s : State) (v : Word) : (s.setAf v).ovf = s.ovf := rfl
@[simp] theorem State.setAf_extIrq (s : State) (v : Word) : (s.setAf v).extIrq = s.extIrq := rfl
@[simp] theorem State.setAf_reports (s : State) (v : Word) : (s.setAf v).reports = s.reports := rfl
@[simp] theorem State.setAf_reg (s : State) (r : Reg8) (v : Word) :
    (s.setAf v).reg r = if r = .a then hiByte v else s.reg r := State.setReg_reg ..
@[simp] theorem State.setAf_readByte (s : State) (v : Word) (x : Addr) :
    (s.setAf v).readByte x = s.readByte x := rfl

/-! `setPair` -/

@[simp] theorem State.setPair_flags (s : State) (p : Pair) (v : Word) : (s.setPair p v).flags = s.flags := by cases p <;> rfl
@[simp] theorem State.setPair_sp (s : State) (p : Pair) (v : Word) : (s.setPair p v).sp = if p = .sp then v else s.sp := by cases p <;> rfl
@[simp] theorem State.setPair_pc (s : State) (p : Pair) (v : Word) : (s.setPair p v).pc = s.pc := by cases p <;> rfl
@[simp] theorem State.setPair_mem (s : State) (p : Pair) (v : Word) : (s.setPair p v).mem = s.mem := by cases p <;> rfl
@[simp] theorem State.setPair_cyc (s : State) (p : Pair) (v : Word) : (s.setPair p v).cyc = s.cyc := by cases p <;> rfl
@[simp] theorem State.setPair_ime (s : State) (p : Pair) (v : Word) : (s.setPair p v).ime = s.ime := by cases p <;> rfl
@[simp] theorem State.setPair_dip (s : State) (p : Pair) (v : Word) : (s.setPair p v).dip = s.dip := by cases p <;> rfl
@[simp] theorem State.setPair_halt (s : State) (p : Pair) (v : Word) : (s.setPair p v).halt = s.halt := by cases p <;> rfl
@[simp] theorem State.setPair_divAcc (s : State) (p : Pair) (v : Word) : (s.setPair p v).divAcc = s.divAcc := by cases p <;> rfl
@[simp] theorem State.setPair_timaAcc (s : State) (p : Pair) (v : Word) : (s.setPair p v).timaAcc = s.timaAcc := by cases p <;> rfl
@[simp] theorem State.setPair_ovf (s : State) (p : Pair) (v : Word) : (s.setPair p v).ovf = s.ovf := by cases p <;> rfl
@[simp] theorem State.setPair_extIrq (s : State) (p : Pair) (v : Word) : (s.setPair p v).extIrq = s.extIrq := by cases p <;> rfl
@[simp] theorem State.setPair_reports (s : State) (p : Pair) (v : Word) : (s.setPair p v).reports = s.reports := by cases p <;> rfl
@[simp] theorem State.setPair_readByte (s : State) (p : Pair) (v : Word) (x : Addr) :
    (s.setPair p v).readByte x = s.readByte x := by cases p <;> rfl

/-- The pair setter and the pair view agree (rule R22). -/
@[simp] theorem State.pair_setPair (s : State) (p : Pair) (v : Word) : (s.setPair p v).pair p = v := by
  cases p <;> simp [State.setPair, State.pair, State.bc, State.de, State.hl]

/-! `setStackPair` -/

@[simp] theorem State.setStackPair_flags (s : State) (q : StackPair) (v : Word) : (s.setStackPair q v).flags = if q = .af then .ofByte (loByte v) else s.flags := by cases q <;> rfl
@[simp] theorem State.setStackPair_sp (s : State) (q : StackPair) (v : Word) : (s.setStackPair q v).sp = s.sp := by cases q <;> rfl
@[simp] theorem State.setStackPair_pc (s : State) (q : StackPair) (v : Word) : (s.setStackPair q v).pc = s.pc := by cases q <;> rfl
@[simp] theorem State.setStackPair_mem (s : State) (q : StackPair) (v : Word) : (s.setStackPair q v).mem = s.mem := by cases q <;> rfl
@[simp] theorem State.setStackPair_cyc (s : State) (q : StackPair) (v : Word) : (s.setStackPair q v).cyc = s.cyc := by cases q <;> rfl
@[simp] theorem State.setStackPair_ime (s : State) (q : StackPair) (v : Word) : (s.setStackPair q v).ime = s.ime := by cases q <;> rfl
@[simp] theorem State.setStackPair_dip (s : State) (q : StackPair) (v : Word) : (s.setStackPair q v).dip = s.dip := by cases q <;> rfl
@[simp] theorem State.setStackPair_halt (s : State) (q : StackPair) (v : Word) : (s.setStackPair q v).halt = s.halt := by cases q <;> rfl
@[simp] theorem State.setStackPair_divAcc (s : State) (q : StackPair) (v : Word) : (s.setStackPair q v).divAcc = s.divAcc := by cases q <;> rfl
@[simp] theorem State.setStackPair_timaAcc (s : State) (q : StackPair) (v : Word) : (s.setStackPair q v).timaAcc = s.timaAcc := by cases q <;> rfl
@[simp] theorem State.setStackPair_ovf (s : State) (q : StackPair) (v : Word) : (s.setStackPair q v).ovf = s.ovf := by cases q <;> rfl
@[simp] theorem State.setStackPair_extIrq (s : State) (q : StackPair) (v : Word) : (s.setStackPair q v).extIrq = s.extIrq := by cases q <;> rfl
@[simp] theorem State.setStackPair_reports (s : State) (q : StackPair) (v : Word) : (s.setStackPair q v).reports = s.reports := by cases q <;> rfl
@[simp] theorem State.setStackPair_readByte (s : State) (q : StackPair) (v : Word) (x : Addr) :
    (s.setStackPair q v).readByte x = s.readByte x := by cases q <;> rfl

/-! `setSlot` -/

@[simp] theorem State.setSlot_flags (s : State) (x : Slot) (v : Byte) : (s.setSlot x v).flags = s.flags := by cases x <;> rfl
@[simp] theorem State.setSlot_sp (s : State) (x : Slot) (v : Byte) : (s.setSlot x v).sp = s.sp := by cases x <;> rfl
@[simp] theorem State.setSlot_pc (s : State) (x : Slot) (v : Byte) : (s.setSlot x v).pc = s.pc := by cases x <;> rfl
@[simp] theorem State.setSlot_cyc (s : State) (x : Slot) (v : Byte) : (s.setSlot x v).cyc = s.cyc := by cases x <;> rfl
@[simp] theorem State.setSlot_ime (s : State) (x : Slot) (v : Byte) : (s.setSlot x v).ime = s.ime := by cases x <;> rfl
@[simp] theorem State.setSlot_dip (s : State) (x : Slot) (v : Byte) : (s.setSlot x v).dip = s.dip := by cases x <;> rfl
@[simp] theorem State.setSlot_halt (s : State) (x : Slot) (v : Byte) : (s.setSlot x v).halt = s.halt := by cases x <;> rfl
@[simp] theorem State.setSlot_divAcc (s : State) (x : Slot) (v : Byte) : (s.setSlot x v).divAcc = s.divAcc := by cases x <;> rfl
@[simp] theorem State.setSlot_timaAcc (s : State) (x : Slot) (v : Byte) : (s.setSlot x v).timaAcc = s.timaAcc := by cases x <;> rfl
@[simp] theorem State.setSlot_ovf (s : State) (x : Slot) (v : Byte) : (s.setSlot x v).ovf = s.ovf := by cases x <;> rfl
@[simp] theorem State.setSlot_extIrq (s : State) (x : Slot) (v : Byte) : (s.setSlot x v).extIrq = s.extIrq := by cases x <;> rfl
@[simp] theorem State.setSlot_reports (s : State) (x : Slot) (v : Byte) : (s.setSlot x v).reports = s.reports := by cases x <;> rfl

/-- A written register location changes that register only (rule R120). -/
@[simp] theorem State.setSlot_reg_reg (s : State) (i r : Reg8) (v : Byte) :
    (s.setSlot (.reg i) v).reg r = if r = i then v else s.reg r := State.setReg_reg ..
@[simp] theorem State.setSlot_reg_readByte (s : State) (i : Reg8) (v : Byte) (x : Addr) :
    (s.setSlot (.reg i) v).readByte x = s.readByte x := rfl
/-- A write of `(HL)` changes no register (rule R120). -/
@[simp] theorem State.setSlot_hl_reg (s : State) (r : Reg8) (v : Byte) :
    (s.setSlot .hl v).reg r = s.reg r := rfl
@[simp] theorem State.setSlot_hl_readByte (s : State) (v : Byte) (x : Addr) :
    (s.setSlot .hl v).readByte x = if x = s.hl then v else s.readByte x := State.readByte_writeByte ..

/-- A written location keeps the canonical form of memory. -/
theorem State.wf_setSlot {s : State} (h : s.mem.wf) (x : Slot) (v : Byte) : (s.setSlot x v).mem.wf := by
  cases x
  · exact h
  · exact State.wf_writeByte h _ _

/-! `acceptIrq` -/

@[simp] theorem State.acceptIrq_regs (s : State) (e : Byte) : (s.acceptIrq e).regs = s.regs := rfl
@[simp] theorem State.acceptIrq_flags (s : State) (e : Byte) : (s.acceptIrq e).flags = s.flags := rfl
@[simp] theorem State.acceptIrq_sp (s : State) (e : Byte) : (s.acceptIrq e).sp = s.sp := rfl
@[simp] theorem State.acceptIrq_pc (s : State) (e : Byte) : (s.acceptIrq e).pc = s.pc := rfl
@[simp] theorem State.acceptIrq_cyc (s : State) (e : Byte) : (s.acceptIrq e).cyc = s.cyc := rfl
@[simp] theorem State.acceptIrq_ime (s : State) (e : Byte) : (s.acceptIrq e).ime = s.ime := rfl
@[simp] theorem State.acceptIrq_dip (s : State) (e : Byte) : (s.acceptIrq e).dip = s.dip := rfl
@[simp] theorem State.acceptIrq_halt (s : State) (e : Byte) : (s.acceptIrq e).halt = s.halt := rfl
@[simp] theorem State.acceptIrq_divAcc (s : State) (e : Byte) : (s.acceptIrq e).divAcc = s.divAcc := rfl
@[simp] theorem State.acceptIrq_timaAcc (s : State) (e : Byte) : (s.acceptIrq e).timaAcc = s.timaAcc := rfl
@[simp] theorem State.acceptIrq_ovf (s : State) (e : Byte) : (s.acceptIrq e).ovf = s.ovf := rfl
@[simp] theorem State.acceptIrq_extIrq (s : State) (e : Byte) : (s.acceptIrq e).extIrq = s.extIrq := rfl
@[simp] theorem State.acceptIrq_reports (s : State) (e : Byte) : (s.acceptIrq e).reports = s.reports := rfl
@[simp] theorem State.acceptIrq_reg (s : State) (e : Byte) (r : Reg8) : (s.acceptIrq e).reg r = s.reg r := rfl

/-- Step 1 of the tick changes IF only (rule R304). -/
@[simp] theorem State.acceptIrq_readByte (s : State) (e : Byte) (x : Addr) :
    (s.acceptIrq e).readByte x =
      if x = ifAddr then s.readByte ifAddr ||| (e &&& 0x1F#8) else s.readByte x := State.readByte_writeByte ..

/-! `service` -/

@[simp] theorem State.service_regs (s : State) (i : IrqSource) : (s.service i).regs = s.regs := rfl
@[simp] theorem State.service_flags (s : State) (i : IrqSource) : (s.service i).flags = s.flags := rfl
@[simp] theorem State.service_sp (s : State) (i : IrqSource) : (s.service i).sp = s.sp - 2#16 := rfl
@[simp] theorem State.service_pc (s : State) (i : IrqSource) : (s.service i).pc = i.vector := rfl
@[simp] theorem State.service_cyc (s : State) (i : IrqSource) : (s.service i).cyc = s.cyc + BitVec.ofNat 64 irqDispatchCycles := rfl
@[simp] theorem State.service_ime (s : State) (i : IrqSource) : (s.service i).ime = false := rfl
@[simp] theorem State.service_dip (s : State) (i : IrqSource) : (s.service i).dip = s.dip := rfl
@[simp] theorem State.service_halt (s : State) (i : IrqSource) : (s.service i).halt = false := rfl
@[simp] theorem State.service_divAcc (s : State) (i : IrqSource) : (s.service i).divAcc = s.divAcc := rfl
@[simp] theorem State.service_timaAcc (s : State) (i : IrqSource) : (s.service i).timaAcc = s.timaAcc := rfl
@[simp] theorem State.service_ovf (s : State) (i : IrqSource) : (s.service i).ovf = s.ovf := rfl
@[simp] theorem State.service_extIrq (s : State) (i : IrqSource) : (s.service i).extIrq = s.extIrq := rfl
@[simp] theorem State.service_reports (s : State) (i : IrqSource) : (s.service i).reports = s.reports := rfl
@[simp] theorem State.service_reg (s : State) (i : IrqSource) (r : Reg8) : (s.service i).reg r = s.reg r := rfl

/-- Memory after servicing (rule R308): PC on the stack, and one bit of IF cleared, unless the push
falls on IF. -/
theorem State.readByte_service (s : State) (i : IrqSource) (x : Addr) :
    (s.service i).readByte x =
      if x = s.sp - 2#16 then loByte s.pc
      else if x = s.sp - 1#16 then hiByte s.pc
      else if x = ifAddr then s.readByte ifAddr &&& ~~~(1#8 <<< i.bit)
      else s.readByte x := by
  simp [State.service, State.readByte_push16]

/-- Servicing keeps the canonical form of memory. -/
theorem State.wf_service {s : State} (h : s.mem.wf) (i : IrqSource) : (s.service i).mem.wf :=
  State.wf_push16 (State.wf_writeByte h _ _) _

/-! `interruptController` -/

/-- Everything the interrupt controller can do (rule R305): nothing, leave halt mode, or service one
source that IME and `IE & IF` allow. -/
theorem State.interruptController_cases (s : State) :
    (s.interruptController = s ∧ (s.halt = false ∨ s.pending = 0#8) ∧
      (s.ime = false ∨ firstPending s.pending = none)) ∨
    (s.interruptController = s.setHalt false ∧ s.halt = true ∧ s.pending ≠ 0#8 ∧
      (s.ime = false ∨ firstPending s.pending = none)) ∨
    (∃ i, firstPending s.pending = some i ∧ s.ime = true ∧ s.interruptController = s.service i) := by
  have hserv : ∀ i, (s.setHalt false).service i = s.service i := fun _ => rfl
  unfold State.interruptController
  by_cases hw : (s.halt && s.pending != 0#8) = true
  · simp only [hw, if_true, State.setHalt_ime]
    simp only [Bool.and_eq_true, bne_iff_ne, ne_eq] at hw
    cases hi : s.ime <;> cases hf : firstPending s.pending
    all_goals simp [hw, hserv]
  · simp only [hw, Bool.false_eq_true, if_false]
    have hw' : s.halt = false ∨ s.pending = 0#8 := by
      cases hh : s.halt
      · exact .inl rfl
      · right
        simpa [hh] using hw
    cases hi : s.ime <;> cases hf : firstPending s.pending
    all_goals simp [hw']

/-! `writeBytes`, `placeAtPc` -/

/-! `writeBytes` -/

@[simp] theorem State.writeBytes_regs (s : State) (a : Addr) (l : List Byte) : (s.writeBytes a l).regs = s.regs := by
  induction l generalizing s a with
  | nil => rfl
  | cons v rest ih => simp [State.writeBytes, ih]
@[simp] theorem State.writeBytes_flags (s : State) (a : Addr) (l : List Byte) : (s.writeBytes a l).flags = s.flags := by
  induction l generalizing s a with
  | nil => rfl
  | cons v rest ih => simp [State.writeBytes, ih]
@[simp] theorem State.writeBytes_sp (s : State) (a : Addr) (l : List Byte) : (s.writeBytes a l).sp = s.sp := by
  induction l generalizing s a with
  | nil => rfl
  | cons v rest ih => simp [State.writeBytes, ih]
@[simp] theorem State.writeBytes_pc (s : State) (a : Addr) (l : List Byte) : (s.writeBytes a l).pc = s.pc := by
  induction l generalizing s a with
  | nil => rfl
  | cons v rest ih => simp [State.writeBytes, ih]
@[simp] theorem State.writeBytes_cyc (s : State) (a : Addr) (l : List Byte) : (s.writeBytes a l).cyc = s.cyc := by
  induction l generalizing s a with
  | nil => rfl
  | cons v rest ih => simp [State.writeBytes, ih]
@[simp] theorem State.writeBytes_ime (s : State) (a : Addr) (l : List Byte) : (s.writeBytes a l).ime = s.ime := by
  induction l generalizing s a with
  | nil => rfl
  | cons v rest ih => simp [State.writeBytes, ih]
@[simp] theorem State.writeBytes_dip (s : State) (a : Addr) (l : List Byte) : (s.writeBytes a l).dip = s.dip := by
  induction l generalizing s a with
  | nil => rfl
  | cons v rest ih => simp [State.writeBytes, ih]
@[simp] theorem State.writeBytes_halt (s : State) (a : Addr) (l : List Byte) : (s.writeBytes a l).halt = s.halt := by
  induction l generalizing s a with
  | nil => rfl
  | cons v rest ih => simp [State.writeBytes, ih]
@[simp] theorem State.writeBytes_divAcc (s : State) (a : Addr) (l : List Byte) : (s.writeBytes a l).divAcc = s.divAcc := by
  induction l generalizing s a with
  | nil => rfl
  | cons v rest ih => simp [State.writeBytes, ih]
@[simp] theorem State.writeBytes_timaAcc (s : State) (a : Addr) (l : List Byte) : (s.writeBytes a l).timaAcc = s.timaAcc := by
  induction l generalizing s a with
  | nil => rfl
  | cons v rest ih => simp [State.writeBytes, ih]
@[simp] theorem State.writeBytes_ovf (s : State) (a : Addr) (l : List Byte) : (s.writeBytes a l).ovf = s.ovf := by
  induction l generalizing s a with
  | nil => rfl
  | cons v rest ih => simp [State.writeBytes, ih]
@[simp] theorem State.writeBytes_extIrq (s : State) (a : Addr) (l : List Byte) : (s.writeBytes a l).extIrq = s.extIrq := by
  induction l generalizing s a with
  | nil => rfl
  | cons v rest ih => simp [State.writeBytes, ih]
@[simp] theorem State.writeBytes_reports (s : State) (a : Addr) (l : List Byte) : (s.writeBytes a l).reports = s.reports := by
  induction l generalizing s a with
  | nil => rfl
  | cons v rest ih => simp [State.writeBytes, ih]

/-- A run of stores keeps the canonical form of memory. -/
theorem State.wf_writeBytes {s : State} (h : s.mem.wf) (a : Addr) (l : List Byte) :
    (s.writeBytes a l).mem.wf := by
  induction l generalizing s a with
  | nil => exact h
  | cons v rest ih => exact ih (State.wf_writeByte h _ _) _

end Sys2Proof.Machine
end

