-- ==== Sys2Proof/Laws/Exec.lean ====
section
/-! SUPPORT. What each operation shared by several meanings changes (rules R152 to R163, R201 to R214,
R220 to R222, R240), field by field, so that a proof about a meaning does not unfold it. -/

namespace Sys2Proof.Machine

/-- The end of a meaning always has a next state, and changes CYC only. -/
@[simp] theorem retire_eq (i : Instr) (taken : Bool) (s : State) :
    retire i taken s = .next (s.charge (cycles i taken)) := rfl

/-! `addA` -/

@[simp] theorem State.addA_flags (s : State) (v : Byte) : (s.addA v).flags =
    ⟨(add8 (s.reg .a) v false).value == 0#8, false, (add8 (s.reg .a) v false).half, (add8 (s.reg .a) v false).carry⟩ := rfl
@[simp] theorem State.addA_sp (s : State) (v : Byte) : (s.addA v).sp = s.sp := rfl
@[simp] theorem State.addA_pc (s : State) (v : Byte) : (s.addA v).pc = s.pc := rfl
@[simp] theorem State.addA_cyc (s : State) (v : Byte) : (s.addA v).cyc = s.cyc := rfl
@[simp] theorem State.addA_ime (s : State) (v : Byte) : (s.addA v).ime = s.ime := rfl
@[simp] theorem State.addA_dip (s : State) (v : Byte) : (s.addA v).dip = s.dip := rfl
@[simp] theorem State.addA_halt (s : State) (v : Byte) : (s.addA v).halt = s.halt := rfl
@[simp] theorem State.addA_divAcc (s : State) (v : Byte) : (s.addA v).divAcc = s.divAcc := rfl
@[simp] theorem State.addA_timaAcc (s : State) (v : Byte) : (s.addA v).timaAcc = s.timaAcc := rfl
@[simp] theorem State.addA_ovf (s : State) (v : Byte) : (s.addA v).ovf = s.ovf := rfl
@[simp] theorem State.addA_extIrq (s : State) (v : Byte) : (s.addA v).extIrq = s.extIrq := rfl
@[simp] theorem State.addA_reports (s : State) (v : Byte) : (s.addA v).reports = s.reports := rfl
@[simp] theorem State.addA_mem (s : State) (v : Byte) : (s.addA v).mem = s.mem := rfl
@[simp] theorem State.addA_readByte (s : State) (v : Byte) (k : Addr) :
    (s.addA v).readByte k = s.readByte k := rfl
@[simp] theorem State.addA_reg (s : State) (v : Byte) (r : Reg8) :
    (s.addA v).reg r = if r = .a then (add8 (s.reg .a) v false).value else s.reg r := State.setReg_reg ..

/-! `adcA` -/

@[simp] theorem State.adcA_flags (s : State) (v : Byte) : (s.adcA v).flags =
    ⟨(add8 (s.reg .a) v s.flags.c).value == 0#8, false, (add8 (s.reg .a) v s.flags.c).half, (add8 (s.reg .a) v s.flags.c).carry⟩ := rfl
@[simp] theorem State.adcA_sp (s : State) (v : Byte) : (s.adcA v).sp = s.sp := rfl
@[simp] theorem State.adcA_pc (s : State) (v : Byte) : (s.adcA v).pc = s.pc := rfl
@[simp] theorem State.adcA_cyc (s : State) (v : Byte) : (s.adcA v).cyc = s.cyc := rfl
@[simp] theorem State.adcA_ime (s : State) (v : Byte) : (s.adcA v).ime = s.ime := rfl
@[simp] theorem State.adcA_dip (s : State) (v : Byte) : (s.adcA v).dip = s.dip := rfl
@[simp] theorem State.adcA_halt (s : State) (v : Byte) : (s.adcA v).halt = s.halt := rfl
@[simp] theorem State.adcA_divAcc (s : State) (v : Byte) : (s.adcA v).divAcc = s.divAcc := rfl
@[simp] theorem State.adcA_timaAcc (s : State) (v : Byte) : (s.adcA v).timaAcc = s.timaAcc := rfl
@[simp] theorem State.adcA_ovf (s : State) (v : Byte) : (s.adcA v).ovf = s.ovf := rfl
@[simp] theorem State.adcA_extIrq (s : State) (v : Byte) : (s.adcA v).extIrq = s.extIrq := rfl
@[simp] theorem State.adcA_reports (s : State) (v : Byte) : (s.adcA v).reports = s.reports := rfl
@[simp] theorem State.adcA_mem (s : State) (v : Byte) : (s.adcA v).mem = s.mem := rfl
@[simp] theorem State.adcA_readByte (s : State) (v : Byte) (k : Addr) :
    (s.adcA v).readByte k = s.readByte k := rfl
@[simp] theorem State.adcA_reg (s : State) (v : Byte) (r : Reg8) :
    (s.adcA v).reg r = if r = .a then (add8 (s.reg .a) v s.flags.c).value else s.reg r := State.setReg_reg ..

/-! `subA` -/

@[simp] theorem State.subA_flags (s : State) (v : Byte) : (s.subA v).flags =
    ⟨(sub8 (s.reg .a) v false).value == 0#8, true, (sub8 (s.reg .a) v false).half, (sub8 (s.reg .a) v false).carry⟩ := rfl
@[simp] theorem State.subA_sp (s : State) (v : Byte) : (s.subA v).sp = s.sp := rfl
@[simp] theorem State.subA_pc (s : State) (v : Byte) : (s.subA v).pc = s.pc := rfl
@[simp] theorem State.subA_cyc (s : State) (v : Byte) : (s.subA v).cyc = s.cyc := rfl
@[simp] theorem State.subA_ime (s : State) (v : Byte) : (s.subA v).ime = s.ime := rfl
@[simp] theorem State.subA_dip (s : State) (v : Byte) : (s.subA v).dip = s.dip := rfl
@[simp] theorem State.subA_halt (s : State) (v : Byte) : (s.subA v).halt = s.halt := rfl
@[simp] theorem State.subA_divAcc (s : State) (v : Byte) : (s.subA v).divAcc = s.divAcc := rfl
@[simp] theorem State.subA_timaAcc (s : State) (v : Byte) : (s.subA v).timaAcc = s.timaAcc := rfl
@[simp] theorem State.subA_ovf (s : State) (v : Byte) : (s.subA v).ovf = s.ovf := rfl
@[simp] theorem State.subA_extIrq (s : State) (v : Byte) : (s.subA v).extIrq = s.extIrq := rfl
@[simp] theorem State.subA_reports (s : State) (v : Byte) : (s.subA v).reports = s.reports := rfl
@[simp] theorem State.subA_mem (s : State) (v : Byte) : (s.subA v).mem = s.mem := rfl
@[simp] theorem State.subA_readByte (s : State) (v : Byte) (k : Addr) :
    (s.subA v).readByte k = s.readByte k := rfl
@[simp] theorem State.subA_reg (s : State) (v : Byte) (r : Reg8) :
    (s.subA v).reg r = if r = .a then (sub8 (s.reg .a) v false).value else s.reg r := State.setReg_reg ..

/-! `sbcA` -/

@[simp] theorem State.sbcA_flags (s : State) (v : Byte) : (s.sbcA v).flags =
    ⟨(sub8 (s.reg .a) v s.flags.c).value == 0#8, true, (sub8 (s.reg .a) v s.flags.c).half, (sub8 (s.reg .a) v s.flags.c).carry⟩ := rfl
@[simp] theorem State.sbcA_sp (s : State) (v : Byte) : (s.sbcA v).sp = s.sp := rfl
@[simp] theorem State.sbcA_pc (s : State) (v : Byte) : (s.sbcA v).pc = s.pc := rfl
@[simp] theorem State.sbcA_cyc (s : State) (v : Byte) : (s.sbcA v).cyc = s.cyc := rfl
@[simp] theorem State.sbcA_ime (s : State) (v : Byte) : (s.sbcA v).ime = s.ime := rfl
@[simp] theorem State.sbcA_dip (s : State) (v : Byte) : (s.sbcA v).dip = s.dip := rfl
@[simp] theorem State.sbcA_halt (s : State) (v : Byte) : (s.sbcA v).halt = s.halt := rfl
@[simp] theorem State.sbcA_divAcc (s : State) (v : Byte) : (s.sbcA v).divAcc = s.divAcc := rfl
@[simp] theorem State.sbcA_timaAcc (s : State) (v : Byte) : (s.sbcA v).timaAcc = s.timaAcc := rfl
@[simp] theorem State.sbcA_ovf (s : State) (v : Byte) : (s.sbcA v).ovf = s.ovf := rfl
@[simp] theorem State.sbcA_extIrq (s : State) (v : Byte) : (s.sbcA v).extIrq = s.extIrq := rfl
@[simp] theorem State.sbcA_reports (s : State) (v : Byte) : (s.sbcA v).reports = s.reports := rfl
@[simp] theorem State.sbcA_mem (s : State) (v : Byte) : (s.sbcA v).mem = s.mem := rfl
@[simp] theorem State.sbcA_readByte (s : State) (v : Byte) (k : Addr) :
    (s.sbcA v).readByte k = s.readByte k := rfl
@[simp] theorem State.sbcA_reg (s : State) (v : Byte) (r : Reg8) :
    (s.sbcA v).reg r = if r = .a then (sub8 (s.reg .a) v s.flags.c).value else s.reg r := State.setReg_reg ..

/-! `andA` -/

@[simp] theorem State.andA_flags (s : State) (v : Byte) : (s.andA v).flags =
    ⟨(s.reg .a &&& v) == 0#8, false, true, false⟩ := rfl
@[simp] theorem State.andA_sp (s : State) (v : Byte) : (s.andA v).sp = s.sp := rfl
@[simp] theorem State.andA_pc (s : State) (v : Byte) : (s.andA v).pc = s.pc := rfl
@[simp] theorem State.andA_cyc (s : State) (v : Byte) : (s.andA v).cyc = s.cyc := rfl
@[simp] theorem State.andA_ime (s : State) (v : Byte) : (s.andA v).ime = s.ime := rfl
@[simp] theorem State.andA_dip (s : State) (v : Byte) : (s.andA v).dip = s.dip := rfl
@[simp] theorem State.andA_halt (s : State) (v : Byte) : (s.andA v).halt = s.halt := rfl
@[simp] theorem State.andA_divAcc (s : State) (v : Byte) : (s.andA v).divAcc = s.divAcc := rfl
@[simp] theorem State.andA_timaAcc (s : State) (v : Byte) : (s.andA v).timaAcc = s.timaAcc := rfl
@[simp] theorem State.andA_ovf (s : State) (v : Byte) : (s.andA v).ovf = s.ovf := rfl
@[simp] theorem State.andA_extIrq (s : State) (v : Byte) : (s.andA v).extIrq = s.extIrq := rfl
@[simp] theorem State.andA_reports (s : State) (v : Byte) : (s.andA v).reports = s.reports := rfl
@[simp] theorem State.andA_mem (s : State) (v : Byte) : (s.andA v).mem = s.mem := rfl
@[simp] theorem State.andA_readByte (s : State) (v : Byte) (k : Addr) :
    (s.andA v).readByte k = s.readByte k := rfl
@[simp] theorem State.andA_reg (s : State) (v : Byte) (r : Reg8) :
    (s.andA v).reg r = if r = .a then (s.reg .a &&& v) else s.reg r := State.setReg_reg ..

/-! `xorA` -/

@[simp] theorem State.xorA_flags (s : State) (v : Byte) : (s.xorA v).flags =
    ⟨(s.reg .a ^^^ v) == 0#8, false, false, false⟩ := rfl
@[simp] theorem State.xorA_sp (s : State) (v : Byte) : (s.xorA v).sp = s.sp := rfl
@[simp] theorem State.xorA_pc (s : State) (v : Byte) : (s.xorA v).pc = s.pc := rfl
@[simp] theorem State.xorA_cyc (s : State) (v : Byte) : (s.xorA v).cyc = s.cyc := rfl
@[simp] theorem State.xorA_ime (s : State) (v : Byte) : (s.xorA v).ime = s.ime := rfl
@[simp] theorem State.xorA_dip (s : State) (v : Byte) : (s.xorA v).dip = s.dip := rfl
@[simp] theorem State.xorA_halt (s : State) (v : Byte) : (s.xorA v).halt = s.halt := rfl
@[simp] theorem State.xorA_divAcc (s : State) (v : Byte) : (s.xorA v).divAcc = s.divAcc := rfl
@[simp] theorem State.xorA_timaAcc (s : State) (v : Byte) : (s.xorA v).timaAcc = s.timaAcc := rfl
@[simp] theorem State.xorA_ovf (s : State) (v : Byte) : (s.xorA v).ovf = s.ovf := rfl
@[simp] theorem State.xorA_extIrq (s : State) (v : Byte) : (s.xorA v).extIrq = s.extIrq := rfl
@[simp] theorem State.xorA_reports (s : State) (v : Byte) : (s.xorA v).reports = s.reports := rfl
@[simp] theorem State.xorA_mem (s : State) (v : Byte) : (s.xorA v).mem = s.mem := rfl
@[simp] theorem State.xorA_readByte (s : State) (v : Byte) (k : Addr) :
    (s.xorA v).readByte k = s.readByte k := rfl
@[simp] theorem State.xorA_reg (s : State) (v : Byte) (r : Reg8) :
    (s.xorA v).reg r = if r = .a then (s.reg .a ^^^ v) else s.reg r := State.setReg_reg ..

/-! `orA` -/

@[simp] theorem State.orA_flags (s : State) (v : Byte) : (s.orA v).flags =
    ⟨(s.reg .a ||| v) == 0#8, false, false, false⟩ := rfl
@[simp] theorem State.orA_sp (s : State) (v : Byte) : (s.orA v).sp = s.sp := rfl
@[simp] theorem State.orA_pc (s : State) (v : Byte) : (s.orA v).pc = s.pc := rfl
@[simp] theorem State.orA_cyc (s : State) (v : Byte) : (s.orA v).cyc = s.cyc := rfl
@[simp] theorem State.orA_ime (s : State) (v : Byte) : (s.orA v).ime = s.ime := rfl
@[simp] theorem State.orA_dip (s : State) (v : Byte) : (s.orA v).dip = s.dip := rfl
@[simp] theorem State.orA_halt (s : State) (v : Byte) : (s.orA v).halt = s.halt := rfl
@[simp] theorem State.orA_divAcc (s : State) (v : Byte) : (s.orA v).divAcc = s.divAcc := rfl
@[simp] theorem State.orA_timaAcc (s : State) (v : Byte) : (s.orA v).timaAcc = s.timaAcc := rfl
@[simp] theorem State.orA_ovf (s : State) (v : Byte) : (s.orA v).ovf = s.ovf := rfl
@[simp] theorem State.orA_extIrq (s : State) (v : Byte) : (s.orA v).extIrq = s.extIrq := rfl
@[simp] theorem State.orA_reports (s : State) (v : Byte) : (s.orA v).reports = s.reports := rfl
@[simp] theorem State.orA_mem (s : State) (v : Byte) : (s.orA v).mem = s.mem := rfl
@[simp] theorem State.orA_readByte (s : State) (v : Byte) (k : Addr) :
    (s.orA v).readByte k = s.readByte k := rfl
@[simp] theorem State.orA_reg (s : State) (v : Byte) (r : Reg8) :
    (s.orA v).reg r = if r = .a then (s.reg .a ||| v) else s.reg r := State.setReg_reg ..

/-! `cpA` -/

@[simp] theorem State.cpA_flags (s : State) (v : Byte) : (s.cpA v).flags =
    ⟨(sub8 (s.reg .a) v false).value == 0#8, true, (sub8 (s.reg .a) v false).half, (sub8 (s.reg .a) v false).carry⟩ := rfl
@[simp] theorem State.cpA_sp (s : State) (v : Byte) : (s.cpA v).sp = s.sp := rfl
@[simp] theorem State.cpA_pc (s : State) (v : Byte) : (s.cpA v).pc = s.pc := rfl
@[simp] theorem State.cpA_cyc (s : State) (v : Byte) : (s.cpA v).cyc = s.cyc := rfl
@[simp] theorem State.cpA_ime (s : State) (v : Byte) : (s.cpA v).ime = s.ime := rfl
@[simp] theorem State.cpA_dip (s : State) (v : Byte) : (s.cpA v).dip = s.dip := rfl
@[simp] theorem State.cpA_halt (s : State) (v : Byte) : (s.cpA v).halt = s.halt := rfl
@[simp] theorem State.cpA_divAcc (s : State) (v : Byte) : (s.cpA v).divAcc = s.divAcc := rfl
@[simp] theorem State.cpA_timaAcc (s : State) (v : Byte) : (s.cpA v).timaAcc = s.timaAcc := rfl
@[simp] theorem State.cpA_ovf (s : State) (v : Byte) : (s.cpA v).ovf = s.ovf := rfl
@[simp] theorem State.cpA_extIrq (s : State) (v : Byte) : (s.cpA v).extIrq = s.extIrq := rfl
@[simp] theorem State.cpA_reports (s : State) (v : Byte) : (s.cpA v).reports = s.reports := rfl
@[simp] theorem State.cpA_mem (s : State) (v : Byte) : (s.cpA v).mem = s.mem := rfl
@[simp] theorem State.cpA_readByte (s : State) (v : Byte) (k : Addr) :
    (s.cpA v).readByte k = s.readByte k := rfl
@[simp] theorem State.cpA_reg (s : State) (v : Byte) (r : Reg8) : (s.cpA v).reg r = s.reg r := rfl

/-! `rotateA` -/

@[simp] theorem State.rotateA_flags (s : State) (f : Byte → ShiftResult) : (s.rotateA f).flags =
    ⟨false, false, false, (f (s.reg .a)).out⟩ := rfl
@[simp] theorem State.rotateA_sp (s : State) (f : Byte → ShiftResult) : (s.rotateA f).sp = s.sp := rfl
@[simp] theorem State.rotateA_pc (s : State) (f : Byte → ShiftResult) : (s.rotateA f).pc = s.pc := rfl
@[simp] theorem State.rotateA_cyc (s : State) (f : Byte → ShiftResult) : (s.rotateA f).cyc = s.cyc := rfl
@[simp] theorem State.rotateA_ime (s : State) (f : Byte → ShiftResult) : (s.rotateA f).ime = s.ime := rfl
@[simp] theorem State.rotateA_dip (s : State) (f : Byte → ShiftResult) : (s.rotateA f).dip = s.dip := rfl
@[simp] theorem State.rotateA_halt (s : State) (f : Byte → ShiftResult) : (s.rotateA f).halt = s.halt := rfl
@[simp] theorem State.rotateA_divAcc (s : State) (f : Byte → ShiftResult) : (s.rotateA f).divAcc = s.divAcc := rfl
@[simp] theorem State.rotateA_timaAcc (s : State) (f : Byte → ShiftResult) : (s.rotateA f).timaAcc = s.timaAcc := rfl
@[simp] theorem State.rotateA_ovf (s : State) (f : Byte → ShiftResult) : (s.rotateA f).ovf = s.ovf := rfl
@[simp] theorem State.rotateA_extIrq (s : State) (f : Byte → ShiftResult) : (s.rotateA f).extIrq = s.extIrq := rfl
@[simp] theorem State.rotateA_reports (s : State) (f : Byte → ShiftResult) : (s.rotateA f).reports = s.reports := rfl
@[simp] theorem State.rotateA_mem (s : State) (f : Byte → ShiftResult) : (s.rotateA f).mem = s.mem := rfl
@[simp] theorem State.rotateA_readByte (s : State) (f : Byte → ShiftResult) (k : Addr) :
    (s.rotateA f).readByte k = s.readByte k := rfl
@[simp] theorem State.rotateA_reg (s : State) (f : Byte → ShiftResult) (r : Reg8) :
    (s.rotateA f).reg r = if r = .a then (f (s.reg .a)).value else s.reg r := State.setReg_reg ..

/-! `bitTest` -/

@[simp] theorem State.bitTest_flags (s : State) (b : BitVec 3) (x : Slot) : (s.bitTest b x).flags =
    ⟨!(s.slot x).getLsbD b.toNat, false, true, s.flags.c⟩ := rfl
@[simp] theorem State.bitTest_sp (s : State) (b : BitVec 3) (x : Slot) : (s.bitTest b x).sp = s.sp := rfl
@[simp] theorem State.bitTest_pc (s : State) (b : BitVec 3) (x : Slot) : (s.bitTest b x).pc = s.pc := rfl
@[simp] theorem State.bitTest_cyc (s : State) (b : BitVec 3) (x : Slot) : (s.bitTest b x).cyc = s.cyc := rfl
@[simp] theorem State.bitTest_ime (s : State) (b : BitVec 3) (x : Slot) : (s.bitTest b x).ime = s.ime := rfl
@[simp] theorem State.bitTest_dip (s : State) (b : BitVec 3) (x : Slot) : (s.bitTest b x).dip = s.dip := rfl
@[simp] theorem State.bitTest_halt (s : State) (b : BitVec 3) (x : Slot) : (s.bitTest b x).halt = s.halt := rfl
@[simp] theorem State.bitTest_divAcc (s : State) (b : BitVec 3) (x : Slot) : (s.bitTest b x).divAcc = s.divAcc := rfl
@[simp] theorem State.bitTest_timaAcc (s : State) (b : BitVec 3) (x : Slot) : (s.bitTest b x).timaAcc = s.timaAcc := rfl
@[simp] theorem State.bitTest_ovf (s : State) (b : BitVec 3) (x : Slot) : (s.bitTest b x).ovf = s.ovf := rfl
@[simp] theorem State.bitTest_extIrq (s : State) (b : BitVec 3) (x : Slot) : (s.bitTest b x).extIrq = s.extIrq := rfl
@[simp] theorem State.bitTest_reports (s : State) (b : BitVec 3) (x : Slot) : (s.bitTest b x).reports = s.reports := rfl
@[simp] theorem State.bitTest_mem (s : State) (b : BitVec 3) (x : Slot) : (s.bitTest b x).mem = s.mem := rfl
@[simp] theorem State.bitTest_readByte (s : State) (b : BitVec 3) (x : Slot) (k : Addr) :
    (s.bitTest b x).readByte k = s.readByte k := rfl
@[simp] theorem State.bitTest_reg (s : State) (b : BitVec 3) (x : Slot) (r : Reg8) : (s.bitTest b x).reg r = s.reg r := rfl

/-! `incSlot` -/

@[simp] theorem State.incSlot_flags (s : State) (x : Slot) : (s.incSlot x).flags =
    ⟨(add8 (s.slot x) 1#8 false).value == 0#8, false, (add8 (s.slot x) 1#8 false).half, s.flags.c⟩ := rfl
@[simp] theorem State.incSlot_sp (s : State) (x : Slot) : (s.incSlot x).sp = s.sp := by cases x <;> rfl
@[simp] theorem State.incSlot_pc (s : State) (x : Slot) : (s.incSlot x).pc = s.pc := by cases x <;> rfl
@[simp] theorem State.incSlot_cyc (s : State) (x : Slot) : (s.incSlot x).cyc = s.cyc := by cases x <;> rfl
@[simp] theorem State.incSlot_ime (s : State) (x : Slot) : (s.incSlot x).ime = s.ime := by cases x <;> rfl
@[simp] theorem State.incSlot_dip (s : State) (x : Slot) : (s.incSlot x).dip = s.dip := by cases x <;> rfl
@[simp] theorem State.incSlot_halt (s : State) (x : Slot) : (s.incSlot x).halt = s.halt := by cases x <;> rfl
@[simp] theorem State.incSlot_divAcc (s : State) (x : Slot) : (s.incSlot x).divAcc = s.divAcc := by cases x <;> rfl
@[simp] theorem State.incSlot_timaAcc (s : State) (x : Slot) : (s.incSlot x).timaAcc = s.timaAcc := by cases x <;> rfl
@[simp] theorem State.incSlot_ovf (s : State) (x : Slot) : (s.incSlot x).ovf = s.ovf := by cases x <;> rfl
@[simp] theorem State.incSlot_extIrq (s : State) (x : Slot) : (s.incSlot x).extIrq = s.extIrq := by cases x <;> rfl
@[simp] theorem State.incSlot_reports (s : State) (x : Slot) : (s.incSlot x).reports = s.reports := by cases x <;> rfl
@[simp] theorem State.incSlot_reg_reg (s : State) (i : Reg8) (r : Reg8) :
    (s.incSlot (.reg i)).reg r = if r = i then (add8 (s.reg i) 1#8 false).value else s.reg r := State.setReg_reg ..
@[simp] theorem State.incSlot_reg_readByte (s : State) (i : Reg8) (k : Addr) :
    (s.incSlot (.reg i)).readByte k = s.readByte k := rfl
@[simp] theorem State.incSlot_hl_reg (s : State) (r : Reg8) :
    (s.incSlot .hl).reg r = s.reg r := rfl
@[simp] theorem State.incSlot_hl_readByte (s : State) (k : Addr) :
    (s.incSlot .hl).readByte k = if k = s.hl then (add8 (s.readByte s.hl) 1#8 false).value else s.readByte k :=
  State.readByte_writeByte ..

/-! `decSlot` -/

@[simp] theorem State.decSlot_flags (s : State) (x : Slot) : (s.decSlot x).flags =
    ⟨(sub8 (s.slot x) 1#8 false).value == 0#8, true, (sub8 (s.slot x) 1#8 false).half, s.flags.c⟩ := rfl
@[simp] theorem State.decSlot_sp (s : State) (x : Slot) : (s.decSlot x).sp = s.sp := by cases x <;> rfl
@[simp] theorem State.decSlot_pc (s : State) (x : Slot) : (s.decSlot x).pc = s.pc := by cases x <;> rfl
@[simp] theorem State.decSlot_cyc (s : State) (x : Slot) : (s.decSlot x).cyc = s.cyc := by cases x <;> rfl
@[simp] theorem State.decSlot_ime (s : State) (x : Slot) : (s.decSlot x).ime = s.ime := by cases x <;> rfl
@[simp] theorem State.decSlot_dip (s : State) (x : Slot) : (s.decSlot x).dip = s.dip := by cases x <;> rfl
@[simp] theorem State.decSlot_halt (s : State) (x : Slot) : (s.decSlot x).halt = s.halt := by cases x <;> rfl
@[simp] theorem State.decSlot_divAcc (s : State) (x : Slot) : (s.decSlot x).divAcc = s.divAcc := by cases x <;> rfl
@[simp] theorem State.decSlot_timaAcc (s : State) (x : Slot) : (s.decSlot x).timaAcc = s.timaAcc := by cases x <;> rfl
@[simp] theorem State.decSlot_ovf (s : State) (x : Slot) : (s.decSlot x).ovf = s.ovf := by cases x <;> rfl
@[simp] theorem State.decSlot_extIrq (s : State) (x : Slot) : (s.decSlot x).extIrq = s.extIrq := by cases x <;> rfl
@[simp] theorem State.decSlot_reports (s : State) (x : Slot) : (s.decSlot x).reports = s.reports := by cases x <;> rfl
@[simp] theorem State.decSlot_reg_reg (s : State) (i : Reg8) (r : Reg8) :
    (s.decSlot (.reg i)).reg r = if r = i then (sub8 (s.reg i) 1#8 false).value else s.reg r := State.setReg_reg ..
@[simp] theorem State.decSlot_reg_readByte (s : State) (i : Reg8) (k : Addr) :
    (s.decSlot (.reg i)).readByte k = s.readByte k := rfl
@[simp] theorem State.decSlot_hl_reg (s : State) (r : Reg8) :
    (s.decSlot .hl).reg r = s.reg r := rfl
@[simp] theorem State.decSlot_hl_readByte (s : State) (k : Addr) :
    (s.decSlot .hl).readByte k = if k = s.hl then (sub8 (s.readByte s.hl) 1#8 false).value else s.readByte k :=
  State.readByte_writeByte ..

/-! `shiftSlot` -/

@[simp] theorem State.shiftSlot_flags (s : State) (x : Slot) (f : Byte → ShiftResult) :
    (s.shiftSlot x f).flags = ⟨(f (s.slot x)).value == 0#8, false, false, (f (s.slot x)).out⟩ := rfl
@[simp] theorem State.shiftSlot_sp (s : State) (x : Slot) (f : Byte → ShiftResult) : (s.shiftSlot x f).sp = s.sp := by cases x <;> rfl
@[simp] theorem State.shiftSlot_pc (s : State) (x : Slot) (f : Byte → ShiftResult) : (s.shiftSlot x f).pc = s.pc := by cases x <;> rfl
@[simp] theorem State.shiftSlot_cyc (s : State) (x : Slot) (f : Byte → ShiftResult) : (s.shiftSlot x f).cyc = s.cyc := by cases x <;> rfl
@[simp] theorem State.shiftSlot_ime (s : State) (x : Slot) (f : Byte → ShiftResult) : (s.shiftSlot x f).ime = s.ime := by cases x <;> rfl
@[simp] theorem State.shiftSlot_dip (s : State) (x : Slot) (f : Byte → ShiftResult) : (s.shiftSlot x f).dip = s.dip := by cases x <;> rfl
@[simp] theorem State.shiftSlot_halt (s : State) (x : Slot) (f : Byte → ShiftResult) : (s.shiftSlot x f).halt = s.halt := by cases x <;> rfl
@[simp] theorem State.shiftSlot_divAcc (s : State) (x : Slot) (f : Byte → ShiftResult) : (s.shiftSlot x f).divAcc = s.divAcc := by cases x <;> rfl
@[simp] theorem State.shiftSlot_timaAcc (s : State) (x : Slot) (f : Byte → ShiftResult) : (s.shiftSlot x f).timaAcc = s.timaAcc := by cases x <;> rfl
@[simp] theorem State.shiftSlot_ovf (s : State) (x : Slot) (f : Byte → ShiftResult) : (s.shiftSlot x f).ovf = s.ovf := by cases x <;> rfl
@[simp] theorem State.shiftSlot_extIrq (s : State) (x : Slot) (f : Byte → ShiftResult) : (s.shiftSlot x f).extIrq = s.extIrq := by cases x <;> rfl
@[simp] theorem State.shiftSlot_reports (s : State) (x : Slot) (f : Byte → ShiftResult) : (s.shiftSlot x f).reports = s.reports := by cases x <;> rfl
@[simp] theorem State.shiftSlot_reg_reg (s : State) (i : Reg8) (f : Byte → ShiftResult) (r : Reg8) :
    (s.shiftSlot (.reg i) f).reg r = if r = i then (f (s.reg i)).value else s.reg r := State.setReg_reg ..
@[simp] theorem State.shiftSlot_reg_readByte (s : State) (i : Reg8) (f : Byte → ShiftResult) (k : Addr) :
    (s.shiftSlot (.reg i) f).readByte k = s.readByte k := rfl
@[simp] theorem State.shiftSlot_hl_reg (s : State) (f : Byte → ShiftResult) (r : Reg8) :
    (s.shiftSlot .hl f).reg r = s.reg r := rfl
@[simp] theorem State.shiftSlot_hl_readByte (s : State) (f : Byte → ShiftResult) (k : Addr) :
    (s.shiftSlot .hl f).readByte k = if k = s.hl then (f (s.readByte s.hl)).value else s.readByte k :=
  State.readByte_writeByte ..

/-! `bitReset` -/

@[simp] theorem State.bitReset_sp (s : State) (b : BitVec 3) (x : Slot) : (s.bitReset b x).sp = s.sp := by cases x <;> rfl
@[simp] theorem State.bitReset_pc (s : State) (b : BitVec 3) (x : Slot) : (s.bitReset b x).pc = s.pc := by cases x <;> rfl
@[simp] theorem State.bitReset_cyc (s : State) (b : BitVec 3) (x : Slot) : (s.bitReset b x).cyc = s.cyc := by cases x <;> rfl
@[simp] theorem State.bitReset_ime (s : State) (b : BitVec 3) (x : Slot) : (s.bitReset b x).ime = s.ime := by cases x <;> rfl
@[simp] theorem State.bitReset_dip (s : State) (b : BitVec 3) (x : Slot) : (s.bitReset b x).dip = s.dip := by cases x <;> rfl
@[simp] theorem State.bitReset_halt (s : State) (b : BitVec 3) (x : Slot) : (s.bitReset b x).halt = s.halt := by cases x <;> rfl
@[simp] theorem State.bitReset_divAcc (s : State) (b : BitVec 3) (x : Slot) : (s.bitReset b x).divAcc = s.divAcc := by cases x <;> rfl
@[simp] theorem State.bitReset_timaAcc (s : State) (b : BitVec 3) (x : Slot) : (s.bitReset b x).timaAcc = s.timaAcc := by cases x <;> rfl
@[simp] theorem State.bitReset_ovf (s : State) (b : BitVec 3) (x : Slot) : (s.bitReset b x).ovf = s.ovf := by cases x <;> rfl
@[simp] theorem State.bitReset_extIrq (s : State) (b : BitVec 3) (x : Slot) : (s.bitReset b x).extIrq = s.extIrq := by cases x <;> rfl
@[simp] theorem State.bitReset_reports (s : State) (b : BitVec 3) (x : Slot) : (s.bitReset b x).reports = s.reports := by cases x <;> rfl
@[simp] theorem State.bitReset_flags (s : State) (b : BitVec 3) (x : Slot) : (s.bitReset b x).flags = s.flags := by cases x <;> rfl
@[simp] theorem State.bitReset_reg_reg (s : State) (b : BitVec 3) (i : Reg8) (r : Reg8) :
    (s.bitReset b (.reg i)).reg r = if r = i then (s.reg i &&& (255#8 - (1#8 <<< b.toNat))) else s.reg r := State.setReg_reg ..
@[simp] theorem State.bitReset_reg_readByte (s : State) (b : BitVec 3) (i : Reg8) (k : Addr) :
    (s.bitReset b (.reg i)).readByte k = s.readByte k := rfl
@[simp] theorem State.bitReset_hl_reg (s : State) (b : BitVec 3) (r : Reg8) :
    (s.bitReset b .hl).reg r = s.reg r := rfl
@[simp] theorem State.bitReset_hl_readByte (s : State) (b : BitVec 3) (k : Addr) :
    (s.bitReset b .hl).readByte k = if k = s.hl then (s.readByte s.hl &&& (255#8 - (1#8 <<< b.toNat))) else s.readByte k :=
  State.readByte_writeByte ..

/-! `bitSet` -/

@[simp] theorem State.bitSet_sp (s : State) (b : BitVec 3) (x : Slot) : (s.bitSet b x).sp = s.sp := by cases x <;> rfl
@[simp] theorem State.bitSet_pc (s : State) (b : BitVec 3) (x : Slot) : (s.bitSet b x).pc = s.pc := by cases x <;> rfl
@[simp] theorem State.bitSet_cyc (s : State) (b : BitVec 3) (x : Slot) : (s.bitSet b x).cyc = s.cyc := by cases x <;> rfl
@[simp] theorem State.bitSet_ime (s : State) (b : BitVec 3) (x : Slot) : (s.bitSet b x).ime = s.ime := by cases x <;> rfl
@[simp] theorem State.bitSet_dip (s : State) (b : BitVec 3) (x : Slot) : (s.bitSet b x).dip = s.dip := by cases x <;> rfl
@[simp] theorem State.bitSet_halt (s : State) (b : BitVec 3) (x : Slot) : (s.bitSet b x).halt = s.halt := by cases x <;> rfl
@[simp] theorem State.bitSet_divAcc (s : State) (b : BitVec 3) (x : Slot) : (s.bitSet b x).divAcc = s.divAcc := by cases x <;> rfl
@[simp] theorem State.bitSet_timaAcc (s : State) (b : BitVec 3) (x : Slot) : (s.bitSet b x).timaAcc = s.timaAcc := by cases x <;> rfl
@[simp] theorem State.bitSet_ovf (s : State) (b : BitVec 3) (x : Slot) : (s.bitSet b x).ovf = s.ovf := by cases x <;> rfl
@[simp] theorem State.bitSet_extIrq (s : State) (b : BitVec 3) (x : Slot) : (s.bitSet b x).extIrq = s.extIrq := by cases x <;> rfl
@[simp] theorem State.bitSet_reports (s : State) (b : BitVec 3) (x : Slot) : (s.bitSet b x).reports = s.reports := by cases x <;> rfl
@[simp] theorem State.bitSet_flags (s : State) (b : BitVec 3) (x : Slot) : (s.bitSet b x).flags = s.flags := by cases x <;> rfl
@[simp] theorem State.bitSet_reg_reg (s : State) (b : BitVec 3) (i : Reg8) (r : Reg8) :
    (s.bitSet b (.reg i)).reg r = if r = i then (s.reg i ||| (1#8 <<< b.toNat)) else s.reg r := State.setReg_reg ..
@[simp] theorem State.bitSet_reg_readByte (s : State) (b : BitVec 3) (i : Reg8) (k : Addr) :
    (s.bitSet b (.reg i)).readByte k = s.readByte k := rfl
@[simp] theorem State.bitSet_hl_reg (s : State) (b : BitVec 3) (r : Reg8) :
    (s.bitSet b .hl).reg r = s.reg r := rfl
@[simp] theorem State.bitSet_hl_readByte (s : State) (b : BitVec 3) (k : Addr) :
    (s.bitSet b .hl).readByte k = if k = s.hl then (s.readByte s.hl ||| (1#8 <<< b.toNat)) else s.readByte k :=
  State.readByte_writeByte ..

/-! `callTo` -/

@[simp] theorem State.callTo_regs (s : State) (v : Word) : (s.callTo v).regs = s.regs := rfl
@[simp] theorem State.callTo_flags (s : State) (v : Word) : (s.callTo v).flags = s.flags := rfl
@[simp] theorem State.callTo_cyc (s : State) (v : Word) : (s.callTo v).cyc = s.cyc := rfl
@[simp] theorem State.callTo_ime (s : State) (v : Word) : (s.callTo v).ime = s.ime := rfl
@[simp] theorem State.callTo_dip (s : State) (v : Word) : (s.callTo v).dip = s.dip := rfl
@[simp] theorem State.callTo_halt (s : State) (v : Word) : (s.callTo v).halt = s.halt := rfl
@[simp] theorem State.callTo_divAcc (s : State) (v : Word) : (s.callTo v).divAcc = s.divAcc := rfl
@[simp] theorem State.callTo_timaAcc (s : State) (v : Word) : (s.callTo v).timaAcc = s.timaAcc := rfl
@[simp] theorem State.callTo_ovf (s : State) (v : Word) : (s.callTo v).ovf = s.ovf := rfl
@[simp] theorem State.callTo_extIrq (s : State) (v : Word) : (s.callTo v).extIrq = s.extIrq := rfl
@[simp] theorem State.callTo_reports (s : State) (v : Word) : (s.callTo v).reports = s.reports := rfl
@[simp] theorem State.callTo_reg (s : State) (v : Word) (r : Reg8) : (s.callTo v).reg r = s.reg r := rfl
@[simp] theorem State.callTo_sp (s : State) (v : Word) : (s.callTo v).sp = s.sp - 2#16 := rfl
@[simp] theorem State.callTo_pc (s : State) (v : Word) : (s.callTo v).pc = v := rfl

/-- The two bytes of the return address (rules R180, R240). -/
theorem State.readByte_callTo (s : State) (v : Word) (x : Addr) :
    (s.callTo v).readByte x =
      if x = s.sp - 2#16 then loByte s.pc else if x = s.sp - 1#16 then hiByte s.pc else s.readByte x :=
  State.readByte_push16 ..

end Sys2Proof.Machine
end

