-- ==== Sys2Proof/Laws/Meanings.lean ====
section
/-! SUPPORT. One equation for each constructor of Instr but two (STOP, which has no next state, and
the escape byte): the state in which `exec` ends, so that no proof about an instruction unfolds the
dispatch or a meaning. -/

namespace Sys2Proof.Machine

theorem exec_nop (s : State) :
    exec .nop s = .next (State.charge s 4) := rfl
theorem exec_halt (s : State) :
    exec .halt s = .next (State.charge (s.setHalt true) 4) := rfl
theorem exec_di (s : State) :
    exec .di s = .next (State.charge (s.setDip true) 4) := rfl
theorem exec_ei (s : State) :
    exec .ei s = .next (State.charge (s.setIme true) 4) := rfl
theorem exec_daa (s : State) :
    exec .daa s =
      .next (State.charge ((s.setReg .a (daaValue (s.reg .a) s.flags)).setFlags
        ⟨(daaValue (s.reg .a) s.flags) == 0#8, s.flags.n, false, daaHigh (s.reg .a) s.flags⟩) 4) := rfl
theorem exec_cpl (s : State) :
    exec .cpl s =
      .next (State.charge ((s.setReg .a (s.reg .a ^^^ 0xFF#8)).setFlags
        ⟨s.flags.z, true, true, s.flags.c⟩) 4) := rfl
theorem exec_scf (s : State) :
    exec .scf s = .next (State.charge (s.setFlags ⟨s.flags.z, false, false, true⟩) 4) := rfl
theorem exec_ccf (s : State) :
    exec .ccf s = .next (State.charge (s.setFlags ⟨s.flags.z, false, false, !s.flags.c⟩) 4) := rfl
theorem exec_ldRR (dst src : Reg8) (s : State) :
    exec (.ldRR dst src) s = .next (State.charge (s.setReg dst (s.reg src)) 4) := rfl
theorem exec_ldRN (dst : Reg8) (n : Byte) (s : State) :
    exec (.ldRN dst n) s = .next (State.charge (s.setReg dst n) 8) := rfl
theorem exec_ldRHL (dst : Reg8) (s : State) :
    exec (.ldRHL dst) s = .next (State.charge (s.setReg dst (s.readByte s.hl)) 8) := rfl
theorem exec_ldHLR (src : Reg8) (s : State) :
    exec (.ldHLR src) s = .next (State.charge (s.writeByte s.hl (s.reg src)) 8) := rfl
theorem exec_ldHLN (n : Byte) (s : State) :
    exec (.ldHLN n) s = .next (State.charge (s.writeByte s.hl n) 12) := rfl
theorem exec_ldABC (s : State) :
    exec .ldABC s = .next (State.charge (s.setReg .a (s.readByte s.bc)) 8) := rfl
theorem exec_ldADE (s : State) :
    exec .ldADE s = .next (State.charge (s.setReg .a (s.readByte s.de)) 8) := rfl
theorem exec_ldBCA (s : State) :
    exec .ldBCA s = .next (State.charge (s.writeByte s.bc (s.reg .a)) 8) := rfl
theorem exec_ldDEA (s : State) :
    exec .ldDEA s = .next (State.charge (s.writeByte s.de (s.reg .a)) 8) := rfl
theorem exec_ldANN (nn : Word) (s : State) :
    exec (.ldANN nn) s = .next (State.charge (s.setReg .a (s.readByte nn)) 16) := rfl
theorem exec_ldNNA (nn : Word) (s : State) :
    exec (.ldNNA nn) s = .next (State.charge (s.writeByte nn (s.reg .a)) 16) := rfl
theorem exec_ldhAC (s : State) :
    exec .ldhAC s = .next (State.charge (s.setReg .a (s.readByte (highPage (s.reg .c)))) 8) := rfl
theorem exec_ldhCA (s : State) :
    exec .ldhCA s = .next (State.charge (s.writeByte (highPage (s.reg .c)) (s.reg .a)) 8) := rfl
theorem exec_ldhAN (n : Byte) (s : State) :
    exec (.ldhAN n) s = .next (State.charge (s.setReg .a (s.readByte (highPage n))) 12) := rfl
theorem exec_ldhNA (n : Byte) (s : State) :
    exec (.ldhNA n) s = .next (State.charge (s.writeByte (highPage n) (s.reg .a)) 12) := rfl
theorem exec_ldAHLI (s : State) :
    exec .ldAHLI s =
      .next (State.charge ((s.setReg .a (s.readByte s.hl)).setHl (s.hl + 1#16)) 8) := rfl
theorem exec_ldAHLD (s : State) :
    exec .ldAHLD s =
      .next (State.charge ((s.setReg .a (s.readByte s.hl)).setHl (s.hl - 1#16)) 8) := rfl
theorem exec_ldHLIA (s : State) :
    exec .ldHLIA s =
      .next (State.charge ((s.writeByte s.hl (s.reg .a)).setHl (s.hl + 1#16)) 8) := rfl
theorem exec_ldHLDA (s : State) :
    exec .ldHLDA s =
      .next (State.charge ((s.writeByte s.hl (s.reg .a)).setHl (s.hl - 1#16)) 8) := rfl
theorem exec_addAR (src : Reg8) (s : State) :
    exec (.addAR src) s = .next (State.charge (s.addA (s.reg src)) 4) := rfl
theorem exec_addAHL (s : State) :
    exec .addAHL s = .next (State.charge (s.addA (s.readByte s.hl)) 8) := rfl
theorem exec_addAN (n : Byte) (s : State) :
    exec (.addAN n) s = .next (State.charge (s.addA n) 8) := rfl
theorem exec_adcAR (src : Reg8) (s : State) :
    exec (.adcAR src) s = .next (State.charge (s.adcA (s.reg src)) 4) := rfl
theorem exec_adcAHL (s : State) :
    exec .adcAHL s = .next (State.charge (s.adcA (s.readByte s.hl)) 8) := rfl
theorem exec_adcAN (n : Byte) (s : State) :
    exec (.adcAN n) s = .next (State.charge (s.adcA n) 8) := rfl
theorem exec_subAR (src : Reg8) (s : State) :
    exec (.subAR src) s = .next (State.charge (s.subA (s.reg src)) 4) := rfl
theorem exec_subAHL (s : State) :
    exec .subAHL s = .next (State.charge (s.subA (s.readByte s.hl)) 8) := rfl
theorem exec_subAN (n : Byte) (s : State) :
    exec (.subAN n) s = .next (State.charge (s.subA n) 8) := rfl
theorem exec_sbcAR (src : Reg8) (s : State) :
    exec (.sbcAR src) s = .next (State.charge (s.sbcA (s.reg src)) 4) := rfl
theorem exec_sbcAHL (s : State) :
    exec .sbcAHL s = .next (State.charge (s.sbcA (s.readByte s.hl)) 8) := rfl
theorem exec_sbcAN (n : Byte) (s : State) :
    exec (.sbcAN n) s = .next (State.charge (s.sbcA n) 8) := rfl
theorem exec_andAR (src : Reg8) (s : State) :
    exec (.andAR src) s = .next (State.charge (s.andA (s.reg src)) 4) := rfl
theorem exec_andAHL (s : State) :
    exec .andAHL s = .next (State.charge (s.andA (s.readByte s.hl)) 8) := rfl
theorem exec_andAN (n : Byte) (s : State) :
    exec (.andAN n) s = .next (State.charge (s.andA n) 8) := rfl
theorem exec_xorAR (src : Reg8) (s : State) :
    exec (.xorAR src) s = .next (State.charge (s.xorA (s.reg src)) 4) := rfl
theorem exec_xorAHL (s : State) :
    exec .xorAHL s = .next (State.charge (s.xorA (s.readByte s.hl)) 8) := rfl
theorem exec_xorAN (n : Byte) (s : State) :
    exec (.xorAN n) s = .next (State.charge (s.xorA n) 8) := rfl
theorem exec_orAR (src : Reg8) (s : State) :
    exec (.orAR src) s = .next (State.charge (s.orA (s.reg src)) 4) := rfl
theorem exec_orAHL (s : State) :
    exec .orAHL s = .next (State.charge (s.orA (s.readByte s.hl)) 8) := rfl
theorem exec_orAN (n : Byte) (s : State) :
    exec (.orAN n) s = .next (State.charge (s.orA n) 8) := rfl
theorem exec_cpAR (src : Reg8) (s : State) :
    exec (.cpAR src) s = .next (State.charge (s.cpA (s.reg src)) 4) := rfl
theorem exec_cpAHL (s : State) :
    exec .cpAHL s = .next (State.charge (s.cpA (s.readByte s.hl)) 8) := rfl
theorem exec_cpAN (n : Byte) (s : State) :
    exec (.cpAN n) s = .next (State.charge (s.cpA n) 8) := rfl
theorem exec_incR (dst : Reg8) (s : State) :
    exec (.incR dst) s = .next (State.charge (s.incSlot (.reg dst)) 4) := rfl
theorem exec_incHL (s : State) :
    exec .incHL s = .next (State.charge (s.incSlot .hl) 12) := rfl
theorem exec_decR (dst : Reg8) (s : State) :
    exec (.decR dst) s = .next (State.charge (s.decSlot (.reg dst)) 4) := rfl
theorem exec_decHL (s : State) :
    exec .decHL s = .next (State.charge (s.decSlot .hl) 12) := rfl
theorem exec_ldPairNN (p : Pair) (nn : Word) (s : State) :
    exec (.ldPairNN p nn) s = .next (State.charge (s.setPair p nn) 12) := rfl
theorem exec_ldSPHL (s : State) :
    exec .ldSPHL s = .next (State.charge (s.setSp s.hl) 8) := rfl
theorem exec_push (q : StackPair) (s : State) :
    exec (.push q) s = .next (State.charge (s.push16 (s.stackPair q)) 16) := rfl
theorem exec_pop (q : StackPair) (s : State) :
    exec (.pop q) s = .next (State.charge (s.popSp.setStackPair q s.popValue) 12) := rfl
theorem exec_ldHLSPE (e : Byte) (s : State) :
    exec (.ldHLSPE e) s =
      .next (State.charge ((s.setHl (addSp s.sp e).value).setFlags
        ⟨false, false, (addSp s.sp e).half, (addSp s.sp e).carry⟩) 12) := rfl
theorem exec_ldNNSP (nn : Word) (s : State) :
    exec (.ldNNSP nn) s = .next (State.charge (s.writeWord nn s.sp) 20) := rfl
theorem exec_addHLPair (p : Pair) (s : State) :
    exec (.addHLPair p) s =
      .next (State.charge ((s.setHl (add16 s.hl (s.pair p)).value).setFlags
        ⟨s.flags.z, false, (add16 s.hl (s.pair p)).half, (add16 s.hl (s.pair p)).carry⟩) 8) := rfl
theorem exec_addSPE (e : Byte) (s : State) :
    exec (.addSPE e) s =
      .next (State.charge ((s.setSp (addSp s.sp e).value).setFlags
        ⟨false, false, (addSp s.sp e).half, (addSp s.sp e).carry⟩) 16) := rfl
theorem exec_incPair (p : Pair) (s : State) :
    exec (.incPair p) s = .next (State.charge (s.setPair p (s.pair p + 1#16)) 8) := rfl
theorem exec_decPair (p : Pair) (s : State) :
    exec (.decPair p) s = .next (State.charge (s.setPair p (s.pair p - 1#16)) 8) := rfl
theorem exec_rlca (s : State) :
    exec .rlca s = .next (State.charge (s.rotateA rlc) 4) := rfl
theorem exec_rrca (s : State) :
    exec .rrca s = .next (State.charge (s.rotateA rrc) 4) := rfl
theorem exec_rla (s : State) :
    exec .rla s = .next (State.charge (s.rotateA fun v => rl v s.flags.c) 4) := rfl
theorem exec_rra (s : State) :
    exec .rra s = .next (State.charge (s.rotateA fun v => rr v s.flags.c) 4) := rfl
theorem exec_rlcR (r : Reg8) (s : State) :
    exec (.rlcR r) s = .next (State.charge (s.shiftSlot (.reg r) rlc) 8) := rfl
theorem exec_rlcHL (s : State) :
    exec .rlcHL s = .next (State.charge (s.shiftSlot .hl rlc) 16) := rfl
theorem exec_rrcR (r : Reg8) (s : State) :
    exec (.rrcR r) s = .next (State.charge (s.shiftSlot (.reg r) rrc) 8) := rfl
theorem exec_rrcHL (s : State) :
    exec .rrcHL s = .next (State.charge (s.shiftSlot .hl rrc) 16) := rfl
theorem exec_rlR (r : Reg8) (s : State) :
    exec (.rlR r) s = .next (State.charge (s.shiftSlot (.reg r) fun v => rl v s.flags.c) 8) := rfl
theorem exec_rlHL (s : State) :
    exec .rlHL s = .next (State.charge (s.shiftSlot .hl fun v => rl v s.flags.c) 16) := rfl
theorem exec_rrR (r : Reg8) (s : State) :
    exec (.rrR r) s = .next (State.charge (s.shiftSlot (.reg r) fun v => rr v s.flags.c) 8) := rfl
theorem exec_rrHL (s : State) :
    exec .rrHL s = .next (State.charge (s.shiftSlot .hl fun v => rr v s.flags.c) 16) := rfl
theorem exec_slaR (r : Reg8) (s : State) :
    exec (.slaR r) s = .next (State.charge (s.shiftSlot (.reg r) sla) 8) := rfl
theorem exec_slaHL (s : State) :
    exec .slaHL s = .next (State.charge (s.shiftSlot .hl sla) 16) := rfl
theorem exec_sraR (r : Reg8) (s : State) :
    exec (.sraR r) s = .next (State.charge (s.shiftSlot (.reg r) sra) 8) := rfl
theorem exec_sraHL (s : State) :
    exec .sraHL s = .next (State.charge (s.shiftSlot .hl sra) 16) := rfl
theorem exec_swapR (r : Reg8) (s : State) :
    exec (.swapR r) s = .next (State.charge (s.shiftSlot (.reg r) swap) 8) := rfl
theorem exec_swapHL (s : State) :
    exec .swapHL s = .next (State.charge (s.shiftSlot .hl swap) 16) := rfl
theorem exec_srlR (r : Reg8) (s : State) :
    exec (.srlR r) s = .next (State.charge (s.shiftSlot (.reg r) srl) 8) := rfl
theorem exec_srlHL (s : State) :
    exec .srlHL s = .next (State.charge (s.shiftSlot .hl srl) 16) := rfl
theorem exec_bitR (b : BitVec 3) (r : Reg8) (s : State) :
    exec (.bitR b r) s = .next (State.charge (s.bitTest b (.reg r)) 8) := rfl
theorem exec_bitHL (b : BitVec 3) (s : State) :
    exec (.bitHL b) s = .next (State.charge (s.bitTest b .hl) 12) := rfl
theorem exec_resR (b : BitVec 3) (r : Reg8) (s : State) :
    exec (.resR b r) s = .next (State.charge (s.bitReset b (.reg r)) 8) := rfl
theorem exec_resHL (b : BitVec 3) (s : State) :
    exec (.resHL b) s = .next (State.charge (s.bitReset b .hl) 16) := rfl
theorem exec_setR (b : BitVec 3) (r : Reg8) (s : State) :
    exec (.setR b r) s = .next (State.charge (s.bitSet b (.reg r)) 8) := rfl
theorem exec_setHL (b : BitVec 3) (s : State) :
    exec (.setHL b) s = .next (State.charge (s.bitSet b .hl) 16) := rfl
theorem exec_jpNN (nn : Word) (s : State) :
    exec (.jpNN nn) s = .next (State.charge (s.setPc nn) 16) := rfl
theorem exec_jpCC (cc : Cond) (nn : Word) (s : State) :
    exec (.jpCC cc nn) s =
      if s.flags.holds cc then .next (State.charge (s.setPc nn) 16) else .next (s.charge 12) := rfl
theorem exec_jrE (e : Byte) (s : State) :
    exec (.jrE e) s = .next (State.charge (s.setPc (s.pc + sext16 e)) 12) := rfl
theorem exec_jrCC (cc : Cond) (e : Byte) (s : State) :
    exec (.jrCC cc e) s =
      if s.flags.holds cc then .next (State.charge (s.setPc (s.pc + sext16 e)) 12)
      else .next (s.charge 8) := rfl
theorem exec_jpHL (s : State) :
    exec .jpHL s = .next (State.charge (s.setPc s.hl) 4) := rfl
theorem exec_callNN (nn : Word) (s : State) :
    exec (.callNN nn) s = .next (State.charge (s.callTo nn) 24) := rfl
theorem exec_callCC (cc : Cond) (nn : Word) (s : State) :
    exec (.callCC cc nn) s =
      if s.flags.holds cc then .next (State.charge (s.callTo nn) 24) else .next (s.charge 12) := rfl
theorem exec_ret (s : State) :
    exec .ret s = .next (State.charge s.returnPc 16) := rfl
theorem exec_retCC (cc : Cond) (s : State) :
    exec (.retCC cc) s =
      if s.flags.holds cc then .next (State.charge s.returnPc 20) else .next (s.charge 8) := rfl
theorem exec_reti (s : State) :
    exec .reti s = .next (State.charge (s.returnPc.setIme true) 16) := rfl
theorem exec_rst (t : BitVec 3) (s : State) :
    exec (.rst t) s = .next (State.charge (s.callTo (t.zeroExtend 16 <<< 3)) 16) := rfl
theorem exec_unimplD3 (s : State) :
    exec .unimplD3 s = .next (State.charge (s.report 0xD3#8) 0) := rfl
theorem exec_unimplDB (s : State) :
    exec .unimplDB s = .next (State.charge (s.report 0xDB#8) 0) := rfl
theorem exec_unimplDD (s : State) :
    exec .unimplDD s = .next (State.charge (s.report 0xDD#8) 0) := rfl
theorem exec_unimplE3 (s : State) :
    exec .unimplE3 s = .next (State.charge (s.report 0xE3#8) 0) := rfl
theorem exec_unimplE4 (s : State) :
    exec .unimplE4 s = .next (State.charge (s.report 0xE4#8) 0) := rfl
theorem exec_unimplEB (s : State) :
    exec .unimplEB s = .next (State.charge (s.report 0xEB#8) 0) := rfl
theorem exec_unimplEC (s : State) :
    exec .unimplEC s = .next (State.charge (s.report 0xEC#8) 0) := rfl
theorem exec_unimplED (s : State) :
    exec .unimplED s = .next (State.charge (s.report 0xED#8) 0) := rfl
theorem exec_unimplF4 (s : State) :
    exec .unimplF4 s = .next (State.charge (s.report 0xF4#8) 0) := rfl
theorem exec_unimplFC (s : State) :
    exec .unimplFC s = .next (State.charge (s.report 0xFC#8) 0) := rfl
theorem exec_unimplFD (s : State) :
    exec .unimplFD s = .next (State.charge (s.report 0xFD#8) 0) := rfl

end Sys2Proof.Machine
end

