-- ==== Sys2Proof/Laws/Timer.lean ====
section
/-! SUPPORT. What the timer's update leaves unchanged, and that it keeps memory in canonical form
(rules R316 to R320). -/

namespace Sys2Proof.Machine

/-! `timaReload` -/

@[simp] theorem State.timaReload_regs (s : State) : (s.timaReload).regs = s.regs := by
  unfold State.timaReload
  split <;> simp
@[simp] theorem State.timaReload_flags (s : State) : (s.timaReload).flags = s.flags := by
  unfold State.timaReload
  split <;> simp
@[simp] theorem State.timaReload_sp (s : State) : (s.timaReload).sp = s.sp := by
  unfold State.timaReload
  split <;> simp
@[simp] theorem State.timaReload_pc (s : State) : (s.timaReload).pc = s.pc := by
  unfold State.timaReload
  split <;> simp
@[simp] theorem State.timaReload_cyc (s : State) : (s.timaReload).cyc = s.cyc := by
  unfold State.timaReload
  split <;> simp
@[simp] theorem State.timaReload_ime (s : State) : (s.timaReload).ime = s.ime := by
  unfold State.timaReload
  split <;> simp
@[simp] theorem State.timaReload_dip (s : State) : (s.timaReload).dip = s.dip := by
  unfold State.timaReload
  split <;> simp
@[simp] theorem State.timaReload_halt (s : State) : (s.timaReload).halt = s.halt := by
  unfold State.timaReload
  split <;> simp
@[simp] theorem State.timaReload_divAcc (s : State) : (s.timaReload).divAcc = s.divAcc := by
  unfold State.timaReload
  split <;> simp
@[simp] theorem State.timaReload_timaAcc (s : State) : (s.timaReload).timaAcc = s.timaAcc := by
  unfold State.timaReload
  split <;> simp
@[simp] theorem State.timaReload_ovf (s : State) : (s.timaReload).ovf = false := by
  unfold State.timaReload
  cases h : s.ovf <;> simp [h]
@[simp] theorem State.timaReload_extIrq (s : State) : (s.timaReload).extIrq = s.extIrq := by
  unfold State.timaReload
  split <;> simp
@[simp] theorem State.timaReload_reports (s : State) : (s.timaReload).reports = s.reports := by
  unfold State.timaReload
  split <;> simp
/-! `divCount` -/

@[simp] theorem State.divCount_regs (s : State) (d : Nat) : (s.divCount d).regs = s.regs := rfl
@[simp] theorem State.divCount_flags (s : State) (d : Nat) : (s.divCount d).flags = s.flags := rfl
@[simp] theorem State.divCount_sp (s : State) (d : Nat) : (s.divCount d).sp = s.sp := rfl
@[simp] theorem State.divCount_pc (s : State) (d : Nat) : (s.divCount d).pc = s.pc := rfl
@[simp] theorem State.divCount_cyc (s : State) (d : Nat) : (s.divCount d).cyc = s.cyc := rfl
@[simp] theorem State.divCount_ime (s : State) (d : Nat) : (s.divCount d).ime = s.ime := rfl
@[simp] theorem State.divCount_dip (s : State) (d : Nat) : (s.divCount d).dip = s.dip := rfl
@[simp] theorem State.divCount_halt (s : State) (d : Nat) : (s.divCount d).halt = s.halt := rfl
@[simp] theorem State.divCount_divAcc (s : State) (d : Nat) : (s.divCount d).divAcc = (s.divAcc + d) % 256 := rfl
@[simp] theorem State.divCount_timaAcc (s : State) (d : Nat) : (s.divCount d).timaAcc = s.timaAcc := rfl
@[simp] theorem State.divCount_ovf (s : State) (d : Nat) : (s.divCount d).ovf = s.ovf := rfl
@[simp] theorem State.divCount_extIrq (s : State) (d : Nat) : (s.divCount d).extIrq = s.extIrq := rfl
@[simp] theorem State.divCount_reports (s : State) (d : Nat) : (s.divCount d).reports = s.reports := rfl
/-! `timaTick` -/

@[simp] theorem State.timaTick_regs (s : State) : (s.timaTick).regs = s.regs := by
  unfold State.timaTick
  split <;> rfl
@[simp] theorem State.timaTick_flags (s : State) : (s.timaTick).flags = s.flags := by
  unfold State.timaTick
  split <;> rfl
@[simp] theorem State.timaTick_sp (s : State) : (s.timaTick).sp = s.sp := by
  unfold State.timaTick
  split <;> rfl
@[simp] theorem State.timaTick_pc (s : State) : (s.timaTick).pc = s.pc := by
  unfold State.timaTick
  split <;> rfl
@[simp] theorem State.timaTick_cyc (s : State) : (s.timaTick).cyc = s.cyc := by
  unfold State.timaTick
  split <;> rfl
@[simp] theorem State.timaTick_ime (s : State) : (s.timaTick).ime = s.ime := by
  unfold State.timaTick
  split <;> rfl
@[simp] theorem State.timaTick_dip (s : State) : (s.timaTick).dip = s.dip := by
  unfold State.timaTick
  split <;> rfl
@[simp] theorem State.timaTick_halt (s : State) : (s.timaTick).halt = s.halt := by
  unfold State.timaTick
  split <;> rfl
@[simp] theorem State.timaTick_divAcc (s : State) : (s.timaTick).divAcc = s.divAcc := by
  unfold State.timaTick
  split <;> rfl
@[simp] theorem State.timaTick_timaAcc (s : State) : (s.timaTick).timaAcc = s.timaAcc := by
  unfold State.timaTick
  split <;> rfl
@[simp] theorem State.timaTick_extIrq (s : State) : (s.timaTick).extIrq = s.extIrq := by
  unfold State.timaTick
  split <;> rfl
@[simp] theorem State.timaTick_reports (s : State) : (s.timaTick).reports = s.reports := by
  unfold State.timaTick
  split <;> rfl
/-! `timaTicks` -/

@[simp] theorem State.timaTicks_regs (s : State) (k : Nat) : (s.timaTicks k).regs = s.regs := by
  induction k generalizing s with
  | zero => rfl
  | succ n ih => simp [State.timaTicks, ih]
@[simp] theorem State.timaTicks_flags (s : State) (k : Nat) : (s.timaTicks k).flags = s.flags := by
  induction k generalizing s with
  | zero => rfl
  | succ n ih => simp [State.timaTicks, ih]
@[simp] theorem State.timaTicks_sp (s : State) (k : Nat) : (s.timaTicks k).sp = s.sp := by
  induction k generalizing s with
  | zero => rfl
  | succ n ih => simp [State.timaTicks, ih]
@[simp] theorem State.timaTicks_pc (s : State) (k : Nat) : (s.timaTicks k).pc = s.pc := by
  induction k generalizing s with
  | zero => rfl
  | succ n ih => simp [State.timaTicks, ih]
@[simp] theorem State.timaTicks_cyc (s : State) (k : Nat) : (s.timaTicks k).cyc = s.cyc := by
  induction k generalizing s with
  | zero => rfl
  | succ n ih => simp [State.timaTicks, ih]
@[simp] theorem State.timaTicks_ime (s : State) (k : Nat) : (s.timaTicks k).ime = s.ime := by
  induction k generalizing s with
  | zero => rfl
  | succ n ih => simp [State.timaTicks, ih]
@[simp] theorem State.timaTicks_dip (s : State) (k : Nat) : (s.timaTicks k).dip = s.dip := by
  induction k generalizing s with
  | zero => rfl
  | succ n ih => simp [State.timaTicks, ih]
@[simp] theorem State.timaTicks_halt (s : State) (k : Nat) : (s.timaTicks k).halt = s.halt := by
  induction k generalizing s with
  | zero => rfl
  | succ n ih => simp [State.timaTicks, ih]
@[simp] theorem State.timaTicks_divAcc (s : State) (k : Nat) : (s.timaTicks k).divAcc = s.divAcc := by
  induction k generalizing s with
  | zero => rfl
  | succ n ih => simp [State.timaTicks, ih]
@[simp] theorem State.timaTicks_timaAcc (s : State) (k : Nat) : (s.timaTicks k).timaAcc = s.timaAcc := by
  induction k generalizing s with
  | zero => rfl
  | succ n ih => simp [State.timaTicks, ih]
@[simp] theorem State.timaTicks_extIrq (s : State) (k : Nat) : (s.timaTicks k).extIrq = s.extIrq := by
  induction k generalizing s with
  | zero => rfl
  | succ n ih => simp [State.timaTicks, ih]
@[simp] theorem State.timaTicks_reports (s : State) (k : Nat) : (s.timaTicks k).reports = s.reports := by
  induction k generalizing s with
  | zero => rfl
  | succ n ih => simp [State.timaTicks, ih]
/-! `timaCount` -/

@[simp] theorem State.timaCount_regs (s : State) (d : Nat) : (s.timaCount d).regs = s.regs := by
  simp only [State.timaCount]
  split <;> simp
@[simp] theorem State.timaCount_flags (s : State) (d : Nat) : (s.timaCount d).flags = s.flags := by
  simp only [State.timaCount]
  split <;> simp
@[simp] theorem State.timaCount_sp (s : State) (d : Nat) : (s.timaCount d).sp = s.sp := by
  simp only [State.timaCount]
  split <;> simp
@[simp] theorem State.timaCount_pc (s : State) (d : Nat) : (s.timaCount d).pc = s.pc := by
  simp only [State.timaCount]
  split <;> simp
@[simp] theorem State.timaCount_cyc (s : State) (d : Nat) : (s.timaCount d).cyc = s.cyc := by
  simp only [State.timaCount]
  split <;> simp
@[simp] theorem State.timaCount_ime (s : State) (d : Nat) : (s.timaCount d).ime = s.ime := by
  simp only [State.timaCount]
  split <;> simp
@[simp] theorem State.timaCount_dip (s : State) (d : Nat) : (s.timaCount d).dip = s.dip := by
  simp only [State.timaCount]
  split <;> simp
@[simp] theorem State.timaCount_halt (s : State) (d : Nat) : (s.timaCount d).halt = s.halt := by
  simp only [State.timaCount]
  split <;> simp
@[simp] theorem State.timaCount_divAcc (s : State) (d : Nat) : (s.timaCount d).divAcc = s.divAcc := by
  simp only [State.timaCount]
  split <;> simp
@[simp] theorem State.timaCount_extIrq (s : State) (d : Nat) : (s.timaCount d).extIrq = s.extIrq := by
  simp only [State.timaCount]
  split <;> simp
@[simp] theorem State.timaCount_reports (s : State) (d : Nat) : (s.timaCount d).reports = s.reports := by
  simp only [State.timaCount]
  split <;> simp

/-- `tima_acc` after the TIMA part (rules R317, R319). -/
theorem State.timaCount_timaAcc (s : State) (d : Nat) :
    (s.timaCount d).timaAcc =
      if timaEnabled (s.readByte tacAddr) then (s.timaAcc + d) % timaPeriod (s.readByte tacAddr)
      else s.timaAcc := by
  simp only [State.timaCount]
  split <;> simp

/-- Every period is one of 16, 64, 256, 1024 (rule R321), so it is positive and at most 1024. -/
theorem timaPeriod_bounds (v : Byte) : 0 < timaPeriod v ∧ timaPeriod v ≤ 1024 := by
  unfold timaPeriod
  split <;> omega

/-! `timerUpdate` -/

@[simp] theorem State.timerUpdate_regs (s : State) (b a : BitVec 64) : (s.timerUpdate b a).regs = s.regs := by
  simp [State.timerUpdate]
@[simp] theorem State.timerUpdate_flags (s : State) (b a : BitVec 64) : (s.timerUpdate b a).flags = s.flags := by
  simp [State.timerUpdate]
@[simp] theorem State.timerUpdate_sp (s : State) (b a : BitVec 64) : (s.timerUpdate b a).sp = s.sp := by
  simp [State.timerUpdate]
@[simp] theorem State.timerUpdate_pc (s : State) (b a : BitVec 64) : (s.timerUpdate b a).pc = s.pc := by
  simp [State.timerUpdate]
@[simp] theorem State.timerUpdate_cyc (s : State) (b a : BitVec 64) : (s.timerUpdate b a).cyc = s.cyc := by
  simp [State.timerUpdate]
@[simp] theorem State.timerUpdate_ime (s : State) (b a : BitVec 64) : (s.timerUpdate b a).ime = s.ime := by
  simp [State.timerUpdate]
@[simp] theorem State.timerUpdate_dip (s : State) (b a : BitVec 64) : (s.timerUpdate b a).dip = s.dip := by
  simp [State.timerUpdate]
@[simp] theorem State.timerUpdate_halt (s : State) (b a : BitVec 64) : (s.timerUpdate b a).halt = s.halt := by
  simp [State.timerUpdate]
@[simp] theorem State.timerUpdate_divAcc (s : State) (b a : BitVec 64) : (s.timerUpdate b a).divAcc = (s.divAcc + (a - b).toNat) % 256 := by
  simp [State.timerUpdate]
@[simp] theorem State.timerUpdate_extIrq (s : State) (b a : BitVec 64) : (s.timerUpdate b a).extIrq = s.extIrq := by
  simp [State.timerUpdate]
@[simp] theorem State.timerUpdate_reports (s : State) (b a : BitVec 64) : (s.timerUpdate b a).reports = s.reports := by
  simp [State.timerUpdate]
@[simp] theorem State.timerUpdate_reg (s : State) (b a : BitVec 64) (r : Reg8) :
    (s.timerUpdate b a).reg r = s.reg r := by simp [State.reg]

theorem State.wf_timaReload {s : State} (h : s.mem.wf) : s.timaReload.mem.wf := by
  unfold State.timaReload
  split
  · exact State.wf_writeByte (State.wf_writeByte h _ _) _ _
  · exact h

theorem State.wf_divCount {s : State} (h : s.mem.wf) (d : Nat) : (s.divCount d).mem.wf :=
  State.wf_writeByte h _ _

theorem State.wf_timaTick {s : State} (h : s.mem.wf) : s.timaTick.mem.wf := by
  unfold State.timaTick
  split
  · show (s.writeByte timaAddr 0x00#8).mem.wf
    exact State.wf_writeByte h _ _
  · exact State.wf_writeByte h _ _

theorem State.wf_timaTicks {s : State} (h : s.mem.wf) (k : Nat) : (s.timaTicks k).mem.wf := by
  induction k generalizing s with
  | zero => exact h
  | succ n ih => exact ih (State.wf_timaTick h)

theorem State.wf_timaCount {s : State} (h : s.mem.wf) (d : Nat) : (s.timaCount d).mem.wf := by
  simp only [State.timaCount]
  split
  · refine State.wf_timaTicks ?_ _
    exact h
  · exact h

/-- The timer's update keeps the canonical form of memory. -/
theorem State.wf_timerUpdate {s : State} (h : s.mem.wf) (b a : BitVec 64) :
    (s.timerUpdate b a).mem.wf :=
  State.wf_timaCount (State.wf_divCount (State.wf_timaReload h) _) _

/-- One increment of TIMA touches TIMA only. -/
theorem State.readByte_timaTick (s : State) (x : Addr) :
    s.timaTick.readByte x =
      if x = timaAddr then s.readByte timaAddr + 1#8 else s.readByte x := by
  unfold State.timaTick
  split
  · next h =>
    show (s.writeByte timaAddr 0x00#8).readByte x = _
    rw [State.readByte_writeByte, h]
    rfl
  · rw [State.readByte_writeByte]

/-- `k` increments of TIMA add `k` to it, mod 256, and touch nothing else in memory. -/
theorem State.readByte_timaTicks (s : State) (k : Nat) (x : Addr) :
    (s.timaTicks k).readByte x =
      if x = timaAddr then s.readByte timaAddr + BitVec.ofNat 8 k else s.readByte x := by
  induction k generalizing s with
  | zero =>
    rw [State.timaTicks]
    split
    · next h => simp [h]
    · rfl
  | succ n ih =>
    rw [State.timaTicks, ih, State.readByte_timaTick, if_pos rfl, State.readByte_timaTick]
    split
    · rw [BitVec.add_assoc, BitVec.add_comm 1#8, BitVec.ofNat_add]
    · rfl

theorem State.ovf_timaTick (s : State) :
    s.timaTick.ovf = (s.ovf || s.readByte timaAddr == 0xFF#8) := by
  unfold State.timaTick
  by_cases h : s.readByte timaAddr = 0xFF#8
  · simp [h]
  · simp [h]

/-- `k` increments of TIMA raise `ovf` exactly when they pass 0xFF (rule R319). -/
theorem State.ovf_timaTicks (s : State) (k : Nat) :
    (s.timaTicks k).ovf = (s.ovf || decide ((s.readByte timaAddr).toNat + k ≥ 256)) := by
  induction k generalizing s with
  | zero =>
    have := (s.readByte timaAddr).isLt
    have h : decide ((s.readByte timaAddr).toNat + 0 ≥ 256) = false := decide_eq_false (by omega)
    rw [h, Bool.or_false, State.timaTicks]
  | succ n ih =>
    rw [State.timaTicks, ih, State.ovf_timaTick, State.readByte_timaTick, if_pos rfl]
    generalize s.readByte timaAddr = v
    by_cases hv : v = 0xFF#8
    · subst hv
      have h : decide ((0xFF#8).toNat + (n + 1) ≥ 256) = true :=
        decide_eq_true (by show 255 + (n + 1) ≥ 256; omega)
      rw [h, beq_self_eq_true, Bool.or_true, Bool.true_or]
    · have h1 : (v + 1#8).toNat = v.toNat + 1 := by
        have : v.toNat ≠ 255 := fun h => hv (BitVec.eq_of_toNat_eq h)
        have := v.isLt
        rw [BitVec.toNat_add, BitVec.toNat_ofNat]
        omega
      rw [h1, show v.toNat + 1 + n = v.toNat + (n + 1) by omega, beq_false_of_ne hv, Bool.or_false]

/-- Memory after the delayed reload (rule R320): TIMA from TMA and bit 2 of IF, if it was due. -/
theorem State.readByte_timaReload (s : State) (x : Addr) :
    s.timaReload.readByte x =
      if s.ovf = true ∧ x = timaAddr then s.readByte tmaAddr
      else if s.ovf = true ∧ x = ifAddr then s.readByte ifAddr ||| 4#8
      else s.readByte x := by
  unfold State.timaReload
  cases s.ovf with
  | false => simp
  | true =>
    show ((s.writeByte timaAddr (s.readByte tmaAddr)).writeByte ifAddr _).readByte x = _
    have hne : ifAddr ≠ timaAddr := by decide
    simp only [State.readByte_writeByte, if_neg hne]
    by_cases h : x = timaAddr
    · simp [h, Ne.symm hne]
    · simp [h]

/-- The DIV part of the update changes DIV only in memory (rule R318). -/
theorem State.readByte_divCount (s : State) (d : Nat) (x : Addr) :
    (s.divCount d).readByte x =
      if x = divAddr then s.readByte divAddr + BitVec.ofNat 8 ((s.divAcc + d) / 256)
      else s.readByte x := State.readByte_writeByte ..

/-- The TIMA part of the update changes TIMA only in memory (rule R319). -/
theorem State.readByte_timaCount (s : State) (d : Nat) (x : Addr) :
    (s.timaCount d).readByte x =
      if x = timaAddr ∧ timaEnabled (s.readByte tacAddr) = true then
        s.readByte timaAddr + BitVec.ofNat 8 ((s.timaAcc + d) / timaPeriod (s.readByte tacAddr))
      else s.readByte x := by
  simp only [State.timaCount]
  cases timaEnabled (s.readByte tacAddr) with
  | false => simp
  | true =>
    simp only [if_true, and_true, State.readByte_timaTicks]
    rfl

/-- `ovf` after the TIMA part (rule R319). -/
theorem State.ovf_timaCount (s : State) (d : Nat) :
    (s.timaCount d).ovf = (s.ovf || (timaEnabled (s.readByte tacAddr) &&
      decide ((s.readByte timaAddr).toNat + (s.timaAcc + d) / timaPeriod (s.readByte tacAddr) ≥ 256))) := by
  simp only [State.timaCount]
  cases timaEnabled (s.readByte tacAddr) with
  | false => simp
  | true =>
    simp only [if_true, Bool.true_and, State.ovf_timaTicks]
    rfl

/-- TIMA as the counting part of an update finds it: after the reload, if one was due. -/
theorem State.readByte_timerUpdate (s : State) (b a : BitVec 64) (x : Addr) :
    (s.timerUpdate b a).readByte x =
      if x = timaAddr ∧ timaEnabled (s.readByte tacAddr) = true then
        s.timaReload.readByte timaAddr +
          BitVec.ofNat 8 ((s.timaAcc + (a - b).toNat) / timaPeriod (s.readByte tacAddr))
      else if x = divAddr then
        s.readByte divAddr + BitVec.ofNat 8 ((s.divAcc + (a - b).toNat) / 256)
      else s.timaReload.readByte x := by
  have h1 : tacAddr ≠ divAddr := by decide
  have h2 : tacAddr ≠ timaAddr := by decide
  have h3 : tacAddr ≠ ifAddr := by decide
  have h4 : timaAddr ≠ divAddr := by decide
  have h5 : divAddr ≠ timaAddr := by decide
  have h6 : divAddr ≠ ifAddr := by decide
  have htac : (s.timaReload.divCount (a - b).toNat).readByte tacAddr = s.readByte tacAddr := by
    simp [State.readByte_divCount, State.readByte_timaReload, h1, h2, h3]
  have hdiv : s.timaReload.readByte divAddr = s.readByte divAddr := by
    simp [State.readByte_timaReload, h5, h6]
  rw [State.timerUpdate, State.readByte_timaCount, htac]
  simp only [State.readByte_divCount, State.divCount_timaAcc, State.timaReload_timaAcc,
    State.timaReload_divAcc, if_neg h4, hdiv]

/-- `tima_acc` after an update (rules R317, R319). -/
theorem State.timerUpdate_timaAcc (s : State) (b a : BitVec 64) :
    (s.timerUpdate b a).timaAcc =
      if timaEnabled (s.readByte tacAddr) then
        (s.timaAcc + (a - b).toNat) % timaPeriod (s.readByte tacAddr)
      else s.timaAcc := by
  have h1 : tacAddr ≠ divAddr := by decide
  have h2 : tacAddr ≠ timaAddr := by decide
  have h3 : tacAddr ≠ ifAddr := by decide
  simp [State.timerUpdate, State.timaCount_timaAcc, State.readByte_divCount,
    State.readByte_timaReload, h1, h2, h3]

/-- `ovf` after an update: raised exactly when this update's count passes 0xFF (rules R317, R319). -/
theorem State.timerUpdate_ovf (s : State) (b a : BitVec 64) :
    (s.timerUpdate b a).ovf = (timaEnabled (s.readByte tacAddr) &&
      decide ((s.timaReload.readByte timaAddr).toNat +
        (s.timaAcc + (a - b).toNat) / timaPeriod (s.readByte tacAddr) ≥ 256)) := by
  have h1 : tacAddr ≠ divAddr := by decide
  have h2 : tacAddr ≠ timaAddr := by decide
  have h3 : tacAddr ≠ ifAddr := by decide
  have h4 : timaAddr ≠ divAddr := by decide
  have htac : (s.timaReload.divCount (a - b).toNat).readByte tacAddr = s.readByte tacAddr := by
    simp [State.readByte_divCount, State.readByte_timaReload, h1, h2, h3]
  rw [State.timerUpdate, State.ovf_timaCount, htac]
  simp [State.readByte_divCount, h4]

/-- An update depends on the two counts through their difference alone (rule R316). -/
theorem State.timerUpdate_sub (s : State) (b a : BitVec 64) :
    s.timerUpdate b a = s.timerUpdate 0#64 (a - b) := by
  rw [State.timerUpdate, State.timerUpdate, BitVec.sub_zero]

end Sys2Proof.Machine
end

