-- ==== Sys2Proof/Laws/Step.lean ====
section
/-! SUPPORT. The tick taken apart: what a step with a next state did (rule R300), so that no later
proof unfolds it; and what its last three steps leave unchanged. -/

namespace Sys2Proof.Machine

/-- A step is a tick with the next input (rules R300, R304). -/
theorem step_eq (s : State) : step s = tick s.nextExtIrq s.dropExtIrq := rfl

/-- A tick of a halted CORE (rule R326). -/
theorem tick_halted {s : State} (h : s.halt = true) (e : Byte) :
    tick e s = .next ((s.acceptIrq e).haltedCharge.finishTick s.cyc false false) := by
  simp [tick, h]

/-- A tick that executes an instruction (rule R300). -/
theorem tick_executed {s u : State} {e : Byte} (h : s.halt = false)
    (hu : exec (s.acceptIrq e).instrAtPc ((s.acceptIrq e).advance (s.acceptIrq e).instrAtPc) = .next u) :
    tick e s = .next (u.finishTick s.cyc true (isDi (s.acceptIrq e).instrAtPc)) := by
  simp [tick, h, hu]

/-- A step of a halted CORE (rules R300, R326). -/
theorem step_halted {s : State} (h : s.halt = true) :
    step s = .next
      ((s.dropExtIrq.acceptIrq s.nextExtIrq).haltedCharge.finishTick s.cyc false false) :=
  tick_halted (s := s.dropExtIrq) h s.nextExtIrq

/-- A step that executes an instruction (rule R300). -/
theorem step_executed {s u : State} (h : s.halt = false)
    (hu : exec (s.dropExtIrq.acceptIrq s.nextExtIrq).instrAtPc
      ((s.dropExtIrq.acceptIrq s.nextExtIrq).advance
        (s.dropExtIrq.acceptIrq s.nextExtIrq).instrAtPc) = .next u) :
    step s = .next (u.finishTick s.cyc true
      (isDi (s.dropExtIrq.acceptIrq s.nextExtIrq).instrAtPc)) :=
  tick_executed (s := s.dropExtIrq) h hu

/-- Everything a tick with a next state can have done: a halted charge or one instruction, and then
steps 4 to 6 (rule R300). -/
theorem tick_cases {s t : State} {e : Byte} (h : tick e s = .next t) :
    (s.halt = true ∧ t = (s.acceptIrq e).haltedCharge.finishTick s.cyc false false) ∨
    (s.halt = false ∧ ∃ u,
      exec (s.acceptIrq e).instrAtPc ((s.acceptIrq e).advance (s.acceptIrq e).instrAtPc) = .next u ∧
      t = u.finishTick s.cyc true (isDi (s.acceptIrq e).instrAtPc)) := by
  cases hh : s.halt with
  | true =>
    rw [tick_halted hh] at h
    exact .inl ⟨rfl, by injection h with h; exact h.symm⟩
  | false =>
    right
    refine ⟨rfl, ?_⟩
    simp only [tick, State.acceptIrq_halt, hh, Bool.false_eq_true, if_false] at h
    split at h
    · next u hu =>
      injection h with h
      exact ⟨u, hu, h.symm⟩
    · cases h
    · cases h

/-- Everything the resolution of a pending DI can do (rule R311). -/
theorem State.resolveDi_cases (s : State) (executed wasDi : Bool) :
    (s.resolveDi executed wasDi = (s.setIme false).setDip false ∧
      s.dip = true ∧ executed = true ∧ wasDi = false) ∨
    (s.resolveDi executed wasDi = s ∧ (s.dip = false ∨ executed = false ∨ wasDi = true)) := by
  unfold State.resolveDi
  cases s.dip <;> cases executed <;> cases wasDi <;> simp

/-! `resolveDi` -/

@[simp] theorem State.resolveDi_regs (s : State) (x d : Bool) : (s.resolveDi x d).regs = s.regs := by
  unfold State.resolveDi; split <;> rfl
@[simp] theorem State.resolveDi_flags (s : State) (x d : Bool) : (s.resolveDi x d).flags = s.flags := by
  unfold State.resolveDi; split <;> rfl
@[simp] theorem State.resolveDi_sp (s : State) (x d : Bool) : (s.resolveDi x d).sp = s.sp := by
  unfold State.resolveDi; split <;> rfl
@[simp] theorem State.resolveDi_pc (s : State) (x d : Bool) : (s.resolveDi x d).pc = s.pc := by
  unfold State.resolveDi; split <;> rfl
@[simp] theorem State.resolveDi_mem (s : State) (x d : Bool) : (s.resolveDi x d).mem = s.mem := by
  unfold State.resolveDi; split <;> rfl
@[simp] theorem State.resolveDi_cyc (s : State) (x d : Bool) : (s.resolveDi x d).cyc = s.cyc := by
  unfold State.resolveDi; split <;> rfl
@[simp] theorem State.resolveDi_halt (s : State) (x d : Bool) : (s.resolveDi x d).halt = s.halt := by
  unfold State.resolveDi; split <;> rfl
@[simp] theorem State.resolveDi_divAcc (s : State) (x d : Bool) : (s.resolveDi x d).divAcc = s.divAcc := by
  unfold State.resolveDi; split <;> rfl
@[simp] theorem State.resolveDi_timaAcc (s : State) (x d : Bool) : (s.resolveDi x d).timaAcc = s.timaAcc := by
  unfold State.resolveDi; split <;> rfl
@[simp] theorem State.resolveDi_ovf (s : State) (x d : Bool) : (s.resolveDi x d).ovf = s.ovf := by
  unfold State.resolveDi; split <;> rfl
@[simp] theorem State.resolveDi_extIrq (s : State) (x d : Bool) : (s.resolveDi x d).extIrq = s.extIrq := by
  unfold State.resolveDi; split <;> rfl
@[simp] theorem State.resolveDi_reports (s : State) (x d : Bool) : (s.resolveDi x d).reports = s.reports := by
  unfold State.resolveDi; split <;> rfl
@[simp] theorem State.resolveDi_readByte (s : State) (x d : Bool) (k : Addr) :
    (s.resolveDi x d).readByte k = s.readByte k := by simp [State.readByte]
@[simp] theorem State.resolveDi_reg (s : State) (x d : Bool) (r : Reg8) :
    (s.resolveDi x d).reg r = s.reg r := by simp [State.reg]

/-! `interruptController` -/

@[simp] theorem State.interruptController_regs (s : State) : s.interruptController.regs = s.regs := by
  rcases s.interruptController_cases with ⟨h, -⟩ | ⟨h, -⟩ | ⟨i, -, -, h⟩ <;> rw [h] <;> rfl
@[simp] theorem State.interruptController_flags (s : State) : s.interruptController.flags = s.flags := by
  rcases s.interruptController_cases with ⟨h, -⟩ | ⟨h, -⟩ | ⟨i, -, -, h⟩ <;> rw [h] <;> rfl
@[simp] theorem State.interruptController_dip (s : State) : s.interruptController.dip = s.dip := by
  rcases s.interruptController_cases with ⟨h, -⟩ | ⟨h, -⟩ | ⟨i, -, -, h⟩ <;> rw [h] <;> rfl
@[simp] theorem State.interruptController_divAcc (s : State) : s.interruptController.divAcc = s.divAcc := by
  rcases s.interruptController_cases with ⟨h, -⟩ | ⟨h, -⟩ | ⟨i, -, -, h⟩ <;> rw [h] <;> rfl
@[simp] theorem State.interruptController_timaAcc (s : State) : s.interruptController.timaAcc = s.timaAcc := by
  rcases s.interruptController_cases with ⟨h, -⟩ | ⟨h, -⟩ | ⟨i, -, -, h⟩ <;> rw [h] <;> rfl
@[simp] theorem State.interruptController_ovf (s : State) : s.interruptController.ovf = s.ovf := by
  rcases s.interruptController_cases with ⟨h, -⟩ | ⟨h, -⟩ | ⟨i, -, -, h⟩ <;> rw [h] <;> rfl
@[simp] theorem State.interruptController_extIrq (s : State) : s.interruptController.extIrq = s.extIrq := by
  rcases s.interruptController_cases with ⟨h, -⟩ | ⟨h, -⟩ | ⟨i, -, -, h⟩ <;> rw [h] <;> rfl
@[simp] theorem State.interruptController_reports (s : State) : s.interruptController.reports = s.reports := by
  rcases s.interruptController_cases with ⟨h, -⟩ | ⟨h, -⟩ | ⟨i, -, -, h⟩ <;> rw [h] <;> rfl
@[simp] theorem State.interruptController_reg (s : State) (r : Reg8) :
    s.interruptController.reg r = s.reg r := by simp [State.reg]

/-- The interrupt controller keeps the canonical form of memory. -/
theorem State.wf_interruptController {s : State} (h : s.mem.wf) : s.interruptController.mem.wf := by
  rcases s.interruptController_cases with ⟨h', -⟩ | ⟨h', -⟩ | ⟨i, -, -, h'⟩ <;> rw [h']
  · exact h
  · exact h
  · exact State.wf_service h i

/-! `finishTick` -/

@[simp] theorem State.finishTick_regs (s : State) (b : BitVec 64) (x d : Bool) :
    (s.finishTick b x d).regs = s.regs := by simp [State.finishTick]
@[simp] theorem State.finishTick_flags (s : State) (b : BitVec 64) (x d : Bool) :
    (s.finishTick b x d).flags = s.flags := by simp [State.finishTick]
@[simp] theorem State.finishTick_extIrq (s : State) (b : BitVec 64) (x d : Bool) :
    (s.finishTick b x d).extIrq = s.extIrq := by simp [State.finishTick]
@[simp] theorem State.finishTick_reports (s : State) (b : BitVec 64) (x d : Bool) :
    (s.finishTick b x d).reports = s.reports := by simp [State.finishTick]
@[simp] theorem State.finishTick_divAcc (s : State) (b : BitVec 64) (x d : Bool) :
    (s.finishTick b x d).divAcc = (s.divAcc + (s.cyc - b).toNat) % 256 := by simp [State.finishTick]

/-- Steps 4 to 6 of the tick keep the canonical form of memory. -/
theorem State.wf_finishTick {s : State} (h : s.mem.wf) (b : BitVec 64) (x d : Bool) :
    (s.finishTick b x d).mem.wf := by
  refine State.wf_interruptController ?_
  rw [State.resolveDi_mem]
  exact State.wf_timerUpdate h _ _

end Sys2Proof.Machine
end

