-- ==== Sys2Proof/Tests/Slice0.lean ====
section
/-! SUPPORT. The model's own tests. Expected values are those of spec/95_test_vectors.md (its numbers
are given), of the pattern strings of the opcode table, or are worked out by hand from the rule that is
named. At the end, for every statement with hypotheses, a state and operands that meet them. -/

namespace Sys2Proof.Tests

set_option Elab.async false

open Sys2Proof.Machine

/-! ## Every row of the opcode table, a word written from its pattern -/

/-- Words of the 8-bit transfers (40_ld8.md), field by field from their pattern strings. -/
theorem test_decode_transfers :
  decode [0b01011100] = .ok (.ldRR .e .h, []) ∧
  decode [0b00111110, 0b01010001] = .ok (.ldRN .a 0x51, []) ∧
  decode [0b01010110] = .ok (.ldRHL .d, []) ∧
  decode [0b01110100] = .ok (.ldHLR .h, []) ∧
  decode [0b00110110, 0b10000100] = .ok (.ldHLN 0x84, []) ∧
  decode [0b00001010] = .ok (.ldABC, []) ∧
  decode [0b00011010] = .ok (.ldADE, []) ∧
  decode [0b00000010] = .ok (.ldBCA, []) ∧
  decode [0b00010010] = .ok (.ldDEA, []) ∧
  decode [0b11111010, 0b00110100, 0b10010010] = .ok (.ldANN 0x9234, []) ∧
  decode [0b11101010, 0b00110100, 0b10010010] = .ok (.ldNNA 0x9234, []) ∧
  decode [0b11110010] = .ok (.ldhAC, []) ∧
  decode [0b11100010] = .ok (.ldhCA, []) ∧
  decode [0b11110000, 0b00011101] = .ok (.ldhAN 0x1D, []) ∧
  decode [0b11100000, 0b00101110] = .ok (.ldhNA 0x2E, []) ∧
  decode [0b00101010] = .ok (.ldAHLI, []) ∧
  decode [0b00111010] = .ok (.ldAHLD, []) ∧
  decode [0b00100010] = .ok (.ldHLIA, []) ∧
  decode [0b00110010] = .ok (.ldHLDA, []) := by
  and_intros <;> rfl

/-- Words of the 8-bit arithmetic and logic (41_alu8.md), field by field from their pattern strings. -/
theorem test_decode_arithmetic :
  decode [0b10000000] = .ok (.addAR .b, []) ∧
  decode [0b10000110] = .ok (.addAHL, []) ∧
  decode [0b11000110, 0b10100101] = .ok (.addAN 0xA5, []) ∧
  decode [0b10001001] = .ok (.adcAR .c, []) ∧
  decode [0b10001110] = .ok (.adcAHL, []) ∧
  decode [0b11001110, 0b11011000] = .ok (.adcAN 0xD8, []) ∧
  decode [0b10010010] = .ok (.subAR .d, []) ∧
  decode [0b10010110] = .ok (.subAHL, []) ∧
  decode [0b11010110, 0b00001011] = .ok (.subAN 0x0B, []) ∧
  decode [0b10011011] = .ok (.sbcAR .e, []) ∧
  decode [0b10011110] = .ok (.sbcAHL, []) ∧
  decode [0b11011110, 0b00111110] = .ok (.sbcAN 0x3E, []) ∧
  decode [0b10100100] = .ok (.andAR .h, []) ∧
  decode [0b10100110] = .ok (.andAHL, []) ∧
  decode [0b11100110, 0b01110001] = .ok (.andAN 0x71, []) ∧
  decode [0b10101101] = .ok (.xorAR .l, []) ∧
  decode [0b10101110] = .ok (.xorAHL, []) ∧
  decode [0b11101110, 0b10100100] = .ok (.xorAN 0xA4, []) ∧
  decode [0b10110111] = .ok (.orAR .a, []) ∧
  decode [0b10110110] = .ok (.orAHL, []) ∧
  decode [0b11110110, 0b11010111] = .ok (.orAN 0xD7, []) ∧
  decode [0b10111000] = .ok (.cpAR .b, []) ∧
  decode [0b10111110] = .ok (.cpAHL, []) ∧
  decode [0b11111110, 0b00001010] = .ok (.cpAN 0x0A, []) ∧
  decode [0b00111100] = .ok (.incR .a, []) ∧
  decode [0b00110100] = .ok (.incHL, []) ∧
  decode [0b00101101] = .ok (.decR .l, []) ∧
  decode [0b00110101] = .ok (.decHL, []) := by
  and_intros <;> rfl

/-- Words of the 16-bit transfers (42_ld16.md), field by field from their pattern strings. -/
theorem test_decode_sixteen_bit_transfers :
  decode [0b00010001, 0b00110100, 0b10010010] = .ok (.ldPairNN .de 0x9234, []) ∧
  decode [0b11111001] = .ok (.ldSPHL, []) ∧
  decode [0b11110101] = .ok (.push .af, []) ∧
  decode [0b11000001] = .ok (.pop .bc, []) ∧
  decode [0b11111000, 0b01010000] = .ok (.ldHLSPE 0x50, []) ∧
  decode [0b00001000, 0b00110100, 0b10010010] = .ok (.ldNNSP 0x9234, []) := by
  and_intros <;> rfl

/-- Words of the 16-bit arithmetic (43_alu16.md), field by field from their pattern strings. -/
theorem test_decode_sixteen_bit_arithmetic :
  decode [0b00111001] = .ok (.addHLPair .sp, []) ∧
  decode [0b11101000, 0b00111011] = .ok (.addSPE 0x3B, []) ∧
  decode [0b00010011] = .ok (.incPair .de, []) ∧
  decode [0b00101011] = .ok (.decPair .hl, []) := by
  and_intros <;> rfl

/-- Words of the rotates and shifts (44_rotate_shift.md), field by field from their pattern strings. -/
theorem test_decode_rotates_and_shifts :
  decode [0b00000111] = .ok (.rlca, []) ∧
  decode [0b00001111] = .ok (.rrca, []) ∧
  decode [0b00010111] = .ok (.rla, []) ∧
  decode [0b00011111] = .ok (.rra, []) ∧
  decode [0b11001011, 0b00000100] = .ok (.rlcR .h, []) ∧
  decode [0b11001011, 0b00000110] = .ok (.rlcHL, []) ∧
  decode [0b11001011, 0b00001101] = .ok (.rrcR .l, []) ∧
  decode [0b11001011, 0b00001110] = .ok (.rrcHL, []) ∧
  decode [0b11001011, 0b00010111] = .ok (.rlR .a, []) ∧
  decode [0b11001011, 0b00010110] = .ok (.rlHL, []) ∧
  decode [0b11001011, 0b00011000] = .ok (.rrR .b, []) ∧
  decode [0b11001011, 0b00011110] = .ok (.rrHL, []) ∧
  decode [0b11001011, 0b00100001] = .ok (.slaR .c, []) ∧
  decode [0b11001011, 0b00100110] = .ok (.slaHL, []) ∧
  decode [0b11001011, 0b00101010] = .ok (.sraR .d, []) ∧
  decode [0b11001011, 0b00101110] = .ok (.sraHL, []) ∧
  decode [0b11001011, 0b00110011] = .ok (.swapR .e, []) ∧
  decode [0b11001011, 0b00110110] = .ok (.swapHL, []) ∧
  decode [0b11001011, 0b00111100] = .ok (.srlR .h, []) ∧
  decode [0b11001011, 0b00111110] = .ok (.srlHL, []) := by
  and_intros <;> rfl

/-- Words of the bit operations (45_bit.md), field by field from their pattern strings. -/
theorem test_decode_bit_operations :
  decode [0b11001011, 0b01101101] = .ok (.bitR 5 .l, []) ∧
  decode [0b11001011, 0b01000110] = .ok (.bitHL 0, []) ∧
  decode [0b11001011, 0b10011111] = .ok (.resR 3 .a, []) ∧
  decode [0b11001011, 0b10110110] = .ok (.resHL 6, []) ∧
  decode [0b11001011, 0b11001000] = .ok (.setR 1 .b, []) ∧
  decode [0b11001011, 0b11100110] = .ok (.setHL 4, []) := by
  and_intros <;> rfl

/-- Words of the jumps (46_jump.md), field by field from their pattern strings. -/
theorem test_decode_jumps :
  decode [0b11000011, 0b00110100, 0b10010010] = .ok (.jpNN 0x9234, []) ∧
  decode [0b11011010, 0b00110100, 0b10010010] = .ok (.jpCC .c 0x9234, []) ∧
  decode [0b00011000, 0b01100010] = .ok (.jrE 0x62, []) ∧
  decode [0b00101000, 0b01011011] = .ok (.jrCC .z 0x5B, []) ∧
  decode [0b11101001] = .ok (.jpHL, []) := by
  and_intros <;> rfl

/-- Words of the calls, returns, restarts (47_call_return.md), field by field from their pattern strings. -/
theorem test_decode_calls_and_returns :
  decode [0b11001101, 0b00110100, 0b10010010] = .ok (.callNN 0x9234, []) ∧
  decode [0b11000100, 0b00110100, 0b10010010] = .ok (.callCC .nz 0x9234, []) ∧
  decode [0b11001001] = .ok (.ret, []) ∧
  decode [0b11010000] = .ok (.retCC .nc, []) ∧
  decode [0b11011001] = .ok (.reti, []) ∧
  decode [0b11101111] = .ok (.rst 5, []) := by
  and_intros <;> rfl

/-- Words of the miscellaneous control (48_misc_control.md), field by field from their pattern strings. -/
theorem test_decode_control :
  decode [0b00000000] = .ok (.nop, []) ∧
  decode [0b00010000, 0b10111000] = .ok (.stop 0xB8, []) ∧
  decode [0b01110110] = .ok (.halt, []) ∧
  decode [0b11110011] = .ok (.di, []) ∧
  decode [0b11111011] = .ok (.ei, []) ∧
  decode [0b00100111] = .ok (.daa, []) ∧
  decode [0b00101111] = .ok (.cpl, []) ∧
  decode [0b00110111] = .ok (.scf, []) ∧
  decode [0b00111111] = .ok (.ccf, []) := by
  and_intros <;> rfl

/-- Words of the unmatched opcodes (30_encoding.md), field by field from their pattern strings. -/
theorem test_decode_unmatched :
  decode [0b11010011] = .ok (.unimplD3, []) ∧
  decode [0b11011011] = .ok (.unimplDB, []) ∧
  decode [0b11011101] = .ok (.unimplDD, []) ∧
  decode [0b11100011] = .ok (.unimplE3, []) ∧
  decode [0b11100100] = .ok (.unimplE4, []) ∧
  decode [0b11101011] = .ok (.unimplEB, []) ∧
  decode [0b11101100] = .ok (.unimplEC, []) ∧
  decode [0b11101101] = .ok (.unimplED, []) ∧
  decode [0b11110100] = .ok (.unimplF4, []) ∧
  decode [0b11111100] = .ok (.unimplFC, []) ∧
  decode [0b11111101] = .ok (.unimplFD, []) := by
  and_intros <;> rfl

/-! ## Decoding beyond single words -/

/-- Rules R90, R98: a sequence that ends too early is rejected by name, and what follows an
instruction is handed back. -/
theorem test_decode_ends_and_rest :
    decode [] = .error .noOpcode ∧
    decode [0xCB] = .error (.truncated 2 1) ∧
    decode [0xC3, 0x34] = .error (.truncated 3 2) ∧
    decode [0x78, 0x10, 0x20] = .ok (.ldRR .a .b, [0x10, 0x20]) := by
  and_intros <;> rfl

/-- Vectors E1: the specific patterns win over the wildcard group. -/
theorem test_decode_priority :
    decode [0x76] = .ok (.halt, []) ∧ decode [0x36, 0x01] = .ok (.ldHLN 0x01, []) ∧
    decode [0x34] = .ok (.incHL, []) ∧ decode [0x35] = .ok (.decHL, []) := by
  and_intros <;> rfl

/-- The numbering of the opcode table: byte 0 lowest, and the two-byte rows after the escape as the
table writes them (`{byte 0, byte 1}`, rule R104; log entry 8). -/
theorem test_decode_table_words :
    decodeTableWord 8 0x47 = some (.ldRR .b .a) ∧
    decodeTableWord 16 0x0006 = some (.ldRN .b 0) ∧
    decodeTableWord 24 0x1234C3 = some (.jpNN 0x1234) ∧
    decodeTableWord 16 0xCB7E = some (.bitHL 7) ∧
    decodeTableWord 16 0x0010 = some (.stop 0) ∧
    decodeTableWord 8 0xCB = some (.rlcR .b) := by
  decide +kernel

/-! ## WellFormed: the one check, with a term it refuses -/

theorem test_wellFormed_refuses_the_bare_escape : Instr.wellFormed (.prefixCb 0x7E) = false := rfl

theorem test_wellFormed_accepts_what_it_stands_for : Instr.wellFormed (.bitHL 7) = true := rfl

/-! ## One step each: vectors of 95_test_vectors.md, computed there from the rules -/

/-- The start state of the vectors: everything 0 but SP = 0xFFFE, and code at PC. -/
def code (pc : Word) (bytes : List Byte) : State :=
  State.writeBytes { State.reset with sp := 0xFFFE, pc := pc } pc bytes

/-- What a view of the state shows after one step; `none` if there is no next state. -/
def after (s : State) (view : State → α) : Option α :=
  match step s with
  | .next t => some (view t)
  | .fault _ => none
  | .refused _ => none

/-- V121.1. -/
theorem test_ld_r_r : after ((code 0xC000 [0x47]).setReg .a 0x5A)
    (fun t => (t.reg .b, t.pc, t.cyc)) = some (0x5A, 0xC001, 4) := by decide +kernel

/-- V123.2: the destination is half of the address. -/
theorem test_ld_r_hl : after (((code 0xC000 [0x6E]).setHl 0xD010).writeByte 0xD010 0x99)
    (fun t => (t.hl, t.cyc)) = some (0xD099, 8) := by decide +kernel

/-- V124.2: the source is half of the address. -/
theorem test_ld_hl_r : after ((code 0xC000 [0x74]).setHl 0xD0A0)
    (fun t => (t.readByte 0xD0A0, t.hl)) = some (0xD0, 0xD0A0) := by decide +kernel

/-- V131.1. -/
theorem test_ld_nn_a : after ((code 0xC000 [0xEA, 0x23, 0xD1]).setReg .a 0x77)
    (fun t => (t.readByte 0xD123, t.pc)) = some (0x77, 0xC003) := by decide +kernel

/-- V132.1. -/
theorem test_ldh_a_c : after (((code 0xC000 [0xF2]).setReg .c 0x80).writeByte 0xFF80 0x5E)
    (fun t => (t.reg .a, t.pc)) = some (0x5E, 0xC001) := by decide +kernel

/-- V135.1: a store to IE. -/
theorem test_ldh_n_a : after ((code 0xC000 [0xE0, 0xFF]).setReg .a 0x04)
    (fun t => (t.readByte ieAddr, t.cyc)) = some (0x04, 12) := by decide +kernel

/-- V136.2: HL wraps after the access at 0xFFFF. -/
theorem test_ld_a_hl_increment : after (((code 0xC000 [0x2A]).setHl 0xFFFF).writeByte 0xFFFF 0x1F)
    (fun t => (t.reg .a, t.hl)) = some (0x1F, 0x0000) := by decide +kernel

/-- V139.1. -/
theorem test_ld_hl_decrement_a : after (((code 0xC000 [0x32]).setHl 0xD100).setReg .a 0x40)
    (fun t => (t.readByte 0xD100, t.hl)) = some (0x40, 0xD0FF) := by decide +kernel

/-- V152.1. -/
theorem test_add_carries : after (((code 0xC000 [0x80]).setReg .a 0x3A).setReg .b 0xC6)
    (fun t => (t.reg .a, t.flags)) = some (0x00, ⟨true, false, true, true⟩) := by decide +kernel

/-- V153.4: the source's own edge case of the carry-in. -/
theorem test_adc_carry_in_twice :
    after (((code 0xC000 [0xCE, 0x0F]).setReg .a 0xF0).setFlags ⟨false, false, false, true⟩)
      (fun t => (t.reg .a, t.flags)) = some (0x00, ⟨true, false, true, true⟩) := by decide +kernel

/-- V154.2. -/
theorem test_sub_half_borrow : after ((code 0xC000 [0xD6, 0x0F]).setReg .a 0x3E)
    (fun t => (t.reg .a, t.flags)) = some (0x2F, ⟨false, true, true, false⟩) := by decide +kernel

/-- V155.4: operand plus borrow is 256. -/
theorem test_sbc_whole_borrow :
    after (((code 0xC000 [0xDE, 0xFF]).setReg .a 0x00).setFlags ⟨false, false, false, true⟩)
      (fun t => (t.reg .a, t.flags)) = some (0x00, ⟨true, true, true, true⟩) := by decide +kernel

/-- V156.1. -/
theorem test_and_sets_half :
    after ((((code 0xC000 [0xA5]).setReg .a 0x5A).setReg .l 0x3F).setFlags ⟨false, true, false, true⟩)
      (fun t => (t.reg .a, t.flags)) = some (0x1A, ⟨false, false, true, false⟩) := by decide +kernel

/-- V191.1: Zero is kept, Half-Carry is the carry out of bit 11. -/
theorem test_add_hl_rr :
    after ((((code 0xC000 [0x09]).setHl 0x8A23).setBc 0x0605).setFlags ⟨true, true, false, false⟩)
      (fun t => (t.hl, t.flags)) = some (0x9028, ⟨true, false, true, false⟩) := by decide +kernel

/-- V192.3: the offset is signed in the sum and unsigned in the carry. -/
theorem test_add_sp_e : after ((code 0xC000 [0xE8, 0x80]).setSp 0x0080)
    (fun t => (t.sp, t.flags)) = some (0x0000, ⟨false, false, false, true⟩) := by decide +kernel

/-- V185.2. -/
theorem test_ld_hl_sp_e : after ((code 0xC000 [0xF8, 0xFF]).setSp 0x0000)
    (fun t => (t.hl, t.flags)) = some (0xFFFF, ⟨false, false, false, false⟩) := by decide +kernel

/-- V194.2: no flag moves when HL wraps. -/
theorem test_dec_rr_wraps : after ((code 0xC000 [0x2B]).setHl 0x0000)
    (fun t => (t.hl, t.flags)) = some (0xFFFF, ⟨false, false, false, false⟩) := by decide +kernel

/-- V186.2: SP is stored low byte first, the second address wrapping. -/
theorem test_ld_nn_sp : after ((code 0xC000 [0x08, 0xFF, 0xFF]).setSp 0x1234)
    (fun t => (t.readByte 0xFFFF, t.readByte 0x0000)) = some (0x34, 0x12) := by decide +kernel

/-- V183.3. -/
theorem test_push_wraps : after (((code 0xC000 [0xE5]).setSp 0x0001).setHl 0xABCD)
    (fun t => (t.readByte 0x0000, t.readByte 0xFFFF, t.sp)) = some (0xAB, 0xCD, 0xFFFF) := by
  decide +kernel

/-- Rule R184 by hand: POP AF drops bits 3 to 0 of the low byte. -/
theorem test_pop_af : after (((code 0xC000 [0xF1]).setSp 0xD000).writeWord 0xD000 0x12BF)
    (fun t => (t.af, t.sp)) = some (0x12B0, 0xD002) := by decide +kernel

/-- V201.2: Zero is reset although the result is 0. -/
theorem test_rlca_resets_zero : after ((code 0xC000 [0x07]).setFlags ⟨true, false, false, true⟩)
    (fun t => (t.reg .a, t.flags)) = some (0x00, ⟨false, false, false, false⟩) := by decide +kernel

/-- V205.3: `RLC A` of the same value sets Zero. -/
theorem test_rlc_a_sets_zero : after ((code 0xC000 [0xCB, 0x07]).setFlags ⟨false, false, false, true⟩)
    (fun t => (t.reg .a, t.flags)) = some (0x00, ⟨true, false, false, false⟩) := by decide +kernel

/-- V208.2. -/
theorem test_rr_hl :
    after ((((code 0xC000 [0xCB, 0x1E]).setHl 0xD000).writeByte 0xD000 0x8A).setFlags
      ⟨false, false, false, true⟩)
      (fun t => (t.readByte 0xD000, t.flags, t.cyc)) = some (0xC5, ⟨false, false, false, false⟩, 16) := by
  decide +kernel

/-- V210.1. -/
theorem test_sra_keeps_the_sign : after ((code 0xC000 [0xCB, 0x2F]).setReg .a 0x8A)
    (fun t => (t.reg .a, t.flags)) = some (0xC5, ⟨false, false, false, false⟩) := by decide +kernel

/-- V211.1. -/
theorem test_swap : after (((code 0xC000 [0xCB, 0x37]).setReg .a 0xF1).setFlags ⟨false, false, false, true⟩)
    (fun t => (t.reg .a, t.flags)) = some (0x1F, ⟨false, false, false, false⟩) := by decide +kernel

/-- V220.2. -/
theorem test_bit_of_a_clear_bit : after ((code 0xC000 [0xCB, 0x65]).setReg .l 0xEF)
    (fun t => (t.reg .l, t.flags)) = some (0xEF, ⟨true, false, true, false⟩) := by decide +kernel

/-- V221.2. -/
theorem test_res_hl : after (((code 0xC000 [0xCB, 0x9E]).setHl 0xD000).writeByte 0xD000 0xFF)
    (fun t => (t.readByte 0xD000, t.cyc)) = some (0xF7, 16) := by decide +kernel

/-- V222.1. -/
theorem test_set_r : after ((code 0xC000 [0xCB, 0xDF]).setReg .a 0x80)
    (fun t => (t.reg .a, t.cyc)) = some (0x88, 8) := by decide +kernel

/-- V233.4: a relative jump across the top of memory. -/
theorem test_jr_wraps : after (code 0xFFF0 [0x18, 0x7F]) (fun t => (t.pc, t.cyc)) = some (0x0071, 12) := by
  decide +kernel

/-- V232.2. -/
theorem test_jp_nz_not_taken : after ((code 0xC000 [0xC2, 0x00, 0x80]).setFlags ⟨true, false, false, false⟩)
    (fun t => (t.pc, t.cyc)) = some (0xC003, 12) := by decide +kernel

/-- Vector E4: operand bytes wrap. -/
theorem test_jp_operand_wraps : after (code 0xFFFF [0xC3, 0x34, 0x12]) (fun t => t.pc) = some 0x1234 := by
  decide +kernel

/-- V240.1. -/
theorem test_call : after (code 0x8000 [0xCD, 0x34, 0x12])
    (fun t => (t.pc, t.sp, t.readByte 0xFFFC, t.readByte 0xFFFD, t.cyc)) =
      some (0x1234, 0xFFFC, 0x03, 0x80, 24) := by decide +kernel

/-- V243.2. -/
theorem test_ret_c_not_taken : after (((code 0x9000 [0xD8]).setSp 0xFFFC).writeWord 0xFFFC 0x8003)
    (fun t => (t.pc, t.sp, t.cyc)) = some (0x9001, 0xFFFC, 8) := by decide +kernel

/-- V244.1. -/
theorem test_reti : after (((code 0x0040 [0xD9]).setSp 0xFFFC).writeWord 0xFFFC 0x8001)
    (fun t => (t.pc, t.sp, t.ime, t.cyc)) = some (0x8001, 0xFFFE, true, 16) := by decide +kernel

/-- V245.2. -/
theorem test_rst : after ((code 0x1233 [0xFF]).setSp 0xD000)
    (fun t => (t.pc, t.readByte 0xCFFE, t.readByte 0xCFFF)) = some (0x0038, 0x34, 0x12) := by decide +kernel

/-- V251.2: a source already pending wakes CORE in the tick of HALT itself. -/
theorem test_halt_pending :
    after (((code 0xC000 [0x76]).writeByte 0xFFFF 0x04).writeByte 0xFF0F 0x04)
      (fun t => (t.pc, t.halt, t.readByte 0xFF0F, t.cyc)) = some (0xC001, false, 0x04, 4) := by decide +kernel

/-- V252.1: STOP is refused, and by its own name. -/
theorem test_stop_is_refused : step (code 0xC000 [0x10, 0x00]) = .refused .stopOpcode := rfl

/-- V253.1. -/
theorem test_di_leaves_ime : after ((code 0xC000 [0xF3]).setIme true)
    (fun t => (t.ime, t.dip)) = some (true, true) := by decide +kernel

/-- V253.5, its second tick: EI after DI does not keep IME. -/
theorem test_ei_after_di : after (((code 0xC000 [0xFB]).setIme true).setDip true)
    (fun t => (t.ime, t.dip)) = some (false, false) := by decide +kernel

/-- V254.2: EI takes effect at once. -/
theorem test_ei_pending :
    after (((code 0xC000 [0xFB]).writeByte 0xFFFF 0x01).writeByte 0xFF0F 0x01)
      (fun t => (t.pc, t.ime, t.readByte 0xFF0F, t.readByte 0xFFFC, t.readByte 0xFFFD, t.cyc)) =
        some (0x0040, false, 0x00, 0x01, 0xC0, 24) := by decide +kernel

/-- V255.1. -/
theorem test_daa_add : after ((code 0xC000 [0x27]).setReg .a 0x7D)
    (fun t => (t.reg .a, t.flags)) = some (0x83, ⟨false, false, false, false⟩) := by decide +kernel

/-- V255.3. -/
theorem test_daa_sub :
    after (((code 0xC000 [0x27]).setReg .a 0x4B).setFlags ⟨false, true, true, false⟩)
      (fun t => (t.reg .a, t.flags)) = some (0x45, ⟨false, true, false, false⟩) := by decide +kernel

/-- V258.2. -/
theorem test_ccf : after (code 0xC000 [0x3F]) (fun t => t.flags) = some ⟨false, false, false, true⟩ := by
  decide +kernel

/-- V260.2: an unmatched opcode is reported, costs nothing and resolves a pending DI. -/
theorem test_unmatched_resolves_di : after (((code 0xC000 [0xFD]).setIme true).setDip true)
    (fun t => (t.pc, t.ime, t.dip, t.cyc, t.reports)) =
      some (0xC001, false, false, 0, [⟨0xFD, 0xC000⟩]) := by decide +kernel

/-! ## One tick each of the scenarios of 95_test_vectors.md, part 3 -/

/-- T2, its 22nd tick: the remainder is carried over. -/
theorem test_div_carries_the_remainder :
    after { code 0xC000 [0x18, 0x00] with divAcc := 252 }
      (fun t => (t.readByte divAddr, t.divAcc)) = some (0x01, 8) := by decide +kernel

/-- T6, its first tick: two increments in one update, the second after the overflow. -/
theorem test_tima_overflow :
    after { ((code 0xC000 [0xCD, 0x03, 0xC0]).writeByte tacAddr 0x05).writeByte timaAddr 0xFF with
        timaAcc := 8 }
      (fun t => (t.readByte timaAddr, t.ovf, t.readByte ifAddr)) = some (0x01, true, 0x00) := by
  decide +kernel

/-- T7, its fifth tick: the reload overwrites the byte just stored. -/
theorem test_tima_reload :
    after { (((code 0xC004 [0xE0, 0x05]).setReg .a 0x77).writeByte tacAddr 0x05).writeByte tmaAddr 0x10 with
        ovf := true }
      (fun t => (t.readByte timaAddr, t.readByte ifAddr, t.timaAcc, t.ovf)) =
        some (0x10, 0x04, 12, false) := by decide +kernel

/-- T10: the dispatch cost is not counted by the timer. -/
theorem test_dispatch_is_not_counted :
    after (((code 0xC000 [0xFB]).writeByte 0xFFFF 0x01).writeByte 0xFF0F 0x01)
      (fun t => (t.cyc, t.divAcc)) = some (24, 4) := by decide +kernel

/-- I1, the second case: of LCD and the lower ones, LCD. -/
theorem test_priority :
    after ((((code 0xC000 [0x00]).setIme true).writeByte 0xFFFF 0xFF).writeByte 0xFF0F 0x1E)
      (fun t => (t.pc, t.readByte 0xFF0F)) = some (0x0048, 0x1C) := by decide +kernel

/-- I4: bits 7 to 5 of the argument are dropped. -/
theorem test_external_request :
    after { ((code 0xC000 [0x00]).setIme true).writeByte 0xFFFF 0x10 with extIrq := [0xF0] }
      (fun t => (t.pc, t.readByte 0xFF0F, t.extIrq)) = some (0x0060, 0x00, []) := by decide +kernel

/-- H1, its third tick: wake without service. -/
theorem test_wake_without_service :
    after { (code 0xC001 [0x3C]).writeByte 0xFFFF 0x08 with halt := true, extIrq := [0x08] }
      (fun t => (t.pc, t.halt, t.readByte 0xFF0F, t.reg .a, t.cyc)) =
        some (0xC001, false, 0x08, 0x00, 4) := by decide +kernel

/-- H2, its second tick: wake with service. -/
theorem test_wake_with_service :
    after { ((code 0xC001 [0x3C]).setIme true).writeByte 0xFFFF 0x08 with halt := true, extIrq := [0x08] }
      (fun t => (t.pc, t.halt, t.readByte 0xFFFC, t.readByte 0xFFFD, t.cyc)) =
        some (0x0058, false, 0x01, 0xC0, 24) := by decide +kernel

/-- Rule R308: a push that falls on IF overwrites the bit just cleared. -/
theorem test_push_over_if :
    after ((((code 0xC05A [0x00]).setIme true).setSp 0xFF11).writeByte 0xFFFF 0x01 |>.writeByte 0xFF0F 0x01)
      (fun t => (t.pc, t.readByte 0xFF0F, t.readByte 0xFF10)) = some (0x0040, 0x5B, 0xC0) := by decide +kernel

/-! ## Reset, placing a word, loading -/

theorem test_reset_is_the_default_launch : State.launch Config.defaultLaunch = State.reset := rfl

/-- A word placed for the next step is the instruction that step runs, from reset. -/
theorem test_withFetchWord : after (State.reset.withFetchWord 16 0x5A06) (fun t => (t.reg .b, t.pc)) =
    some (0x5A, 0x0002) := by decide +kernel

/-- The same for a word of the secondary table. -/
theorem test_withFetchWord_secondary : after (State.reset.withFetchWord 16 0xCBFF) (fun t => (t.reg .a, t.pc)) =
    some (0x80, 0x0002) := by decide +kernel

/-- Rule R75. -/
theorem test_load : (match State.reset.load [0x31, 0xFE] with
    | .next t => some (t.peek 0, t.peek 1, t.peek 2)
    | .fault _ => none
    | .refused _ => none) = some (0x31, 0xFE, 0x00) := by decide +kernel

/-- A launch with memory of its own: a later entry of one address wins. -/
theorem test_launch_memory :
    (State.launch { Config.defaultLaunch with
      resetA := 0x01, resetF := 0xBF, resetSP := 0xFFFE, resetPC := 0x0100,
      resetMem := [(0x0100, 0x11), (0x0100, 0x22)] }).readByte 0x0100 = 0x22 := by decide +kernel

/-- The canonical form: writing what an unlisted byte reads as removes the entry. -/
theorem test_memory_canonical :
    ((State.reset.writeByte 0xD000 0x12).writeByte 0x0010 0x34).mem = [(0x0010, 0x34), (0xD000, 0x12)] ∧
    ((State.reset.writeByte 0xD000 0x12).writeByte 0xD000 0x00).mem = [] := by decide +kernel

/-! ## Witnesses: states and operands that meet the hypotheses of the statements -/

theorem witness_DecodeInvertsEncode : Instr.wellFormed (.jpCC .c 0xFFFF) = true := rfl

theorem witness_StepRunsTheDecodedInstruction :
    let s := { code 0xFFFF [0xC3, 0x34, 0x12] with extIrq := [0x1F] }
    s.halt = false ∧
      decode [(afterRequests s).readByte s.pc, (afterRequests s).readByte (s.pc + 1#16),
        (afterRequests s).readByte (s.pc + 2#16)] = .ok (.jpNN 0x1234, []) := by decide +kernel

theorem witness_OnlyStopIsRefused_runs : ¬ (code 0xC000 [0x00]).fetchesStop := by decide +kernel

theorem witness_OnlyStopIsRefused_halted : ¬ ((code 0xC000 [0x10]).setHalt true).fetchesStop := by
  decide +kernel

theorem witness_OnlyStopIsRefused_stops : (code 0xC000 [0x10]).fetchesStop := by decide +kernel

/-- The byte at PC becomes STOP only by the request of this tick: PC = 0xFF0F. -/
theorem witness_OnlyStopIsRefused_request :
    { code 0xFF0F [0x00] with extIrq := [0x10] }.fetchesStop ∧
      step { code 0xFF0F [0x00] with extIrq := [0x10] } = .refused .stopOpcode := ⟨by decide +kernel, rfl⟩

theorem witness_EscapeByteRunsTheSecondaryInstruction :
    Instr.wellFormed (.setR 7 .a) = true ∧ encode (.setR 7 .a) = [0xCB#8, 0xFF] := by decide +kernel

theorem witness_Conditions_hold :
    CondHolds .nz ⟨false, true, true, true⟩ ∧ CondHolds .z ⟨true, false, false, false⟩ ∧
    CondHolds .nc ⟨true, true, true, false⟩ ∧ CondHolds .c ⟨false, false, false, true⟩ := ⟨rfl, rfl, rfl, rfl⟩

theorem witness_Conditions_fail :
    ¬ CondHolds .nz ⟨true, false, false, false⟩ ∧ ¬ CondHolds .z ⟨false, true, true, true⟩ ∧
    ¬ CondHolds .nc ⟨false, false, false, true⟩ ∧ ¬ CondHolds .c ⟨true, true, true, false⟩ := by
  simp [CondHolds]

/-- The largest operands, and the result that the statement gives for them with Carry: 99 + 99 + 1. -/
theorem witness_DaaCorrectsPackedDecimal :
    isPacked 0x99 ∧ isPacked 0x00 ∧
      after { code 0xC000 [0x27] with
          regs := { State.reset.regs with a := 0x33 }, flags := ⟨false, false, true, true⟩ }
        (fun t => (t.reg .a, t.flags.c)) = some (0x99, true) := by
  refine ⟨⟨by decide, by decide⟩, ⟨by decide, by decide⟩, by decide +kernel⟩

/-- Each flag is left alone by some instruction that has a next state. -/
theorem witness_FlagsChangeOnlyWhereTheTableSays :
    (flagWrites .scf).1 = false ∧ (flagWrites .daa).2.1 = false ∧
    (flagWrites (.resR 0 .a)).2.2.1 = false ∧ (flagWrites .incHL).2.2.2 = false ∧
    (∃ t, exec .scf State.reset = .next t) ∧ (∃ t, exec .daa State.reset = .next t) ∧
    (∃ t, exec (.resR 0 .a) State.reset = .next t) ∧ (∃ t, exec .incHL State.reset = .next t) :=
  ⟨rfl, rfl, rfl, rfl, ⟨_, rfl⟩, ⟨_, rfl⟩, ⟨_, rfl⟩, ⟨_, rfl⟩⟩

theorem witness_Step_halted : (State.reset.setHalt true).halt = true ∧
    ∃ t, step (State.reset.setHalt true) = .next t := ⟨rfl, _, rfl⟩

theorem witness_Step_executed : State.reset.halt = false ∧ fetched State.reset = .nop ∧
    (∃ u, exec (fetched State.reset) (atExecution State.reset) = .next u) ∧
    ∃ t, step State.reset = .next t := ⟨rfl, by decide +kernel, ⟨_, rfl⟩, ⟨_, rfl⟩⟩

theorem witness_PcAndSpHaveTheseWritersOnly :
    isControlFlow (.push .af) = false ∧ writesSp (.jpNN 0) = false ∧ writesSp (.incPair .hl) = false ∧
    (∃ t, exec (.push .af) State.reset = .next t) ∧ (∃ t, exec (.jpNN 0) State.reset = .next t) :=
  ⟨rfl, rfl, rfl, ⟨_, rfl⟩, ⟨_, rfl⟩⟩

/-- A halted step that services: PC pushed, SP down by 2. -/
theorem witness_PcAndSpHaveTheseWritersOnly_halted :
    let s := (((code 0xC001 []).setIme true).setHalt true).writeByte 0xFFFF 0x08 |>.writeByte 0xFF0F 0x08
    s.halt = true ∧ ∃ t, step s = .next t ∧ t.pc = 0x0058 ∧ t.sp = s.sp - 2#16 ∧
      t.readByte (s.sp - 1#16) = 0xC0 ∧ (haltedBeforeController s).ime = true ∧
      firstPending (haltedBeforeController s).pending = some .serial :=
  ⟨rfl, _, rfl, by decide +kernel, rfl, by decide +kernel, rfl, by decide +kernel⟩

/-- NOP at 0x003F with IME 0: PC is a handler's address, and no source is serviced. -/
theorem witness_PcAndSpHaveTheseWritersOnly_executed :
    let s := code 0x003F [0x00]
    s.halt = false ∧ fetched s = .nop ∧ ∃ t u, step s = .next t ∧
      exec (fetched s) (atExecution s) = .next u ∧ t.pc = 0x0040 ∧ t.sp = u.sp ∧
      (executedBeforeController s u).ime = false :=
  ⟨rfl, by decide +kernel, _, _, rfl, rfl, by decide +kernel, by decide +kernel, by decide +kernel⟩

theorem witness_ImeHasTheseWritersOnly :
    (∃ t, exec .reti State.reset = .next t ∧ t.ime = true) ∧
    (∃ t, exec .nop State.reset = .next t ∧ t.ime = false) ∧
    (State.reset.setIme true).ime = true := ⟨⟨_, rfl, rfl⟩, ⟨_, rfl, rfl⟩, rfl⟩

theorem witness_DipHasTheseWritersOnly :
    (∃ t, exec .di State.reset = .next t ∧ t.dip = true) ∧
    (State.reset.setDip true).dip = true ∧ State.reset.dip = false := ⟨⟨_, rfl, rfl⟩, rfl, rfl⟩

theorem witness_HaltHasTheseWritersOnly :
    (∃ t, exec .halt State.reset = .next t ∧ t.halt = true) ∧ (State.reset.setHalt true).halt = true :=
  ⟨⟨_, rfl, rfl⟩, rfl⟩

/-- Two states that differ in all that is hidden, and an instruction with a next state. -/
theorem witness_InstructionsReadNoHiddenState :
    let s := code 0xC000 [0x34]
    let s' : State := { s with cyc := 7, ime := true, dip := true, divAcc := 9, ovf := true, extIrq := [1] }
    s'.regs = s.regs ∧ s'.flags = s.flags ∧ s'.sp = s.sp ∧ s'.pc = s.pc ∧
      (∀ a, s'.readByte a = s.readByte a) ∧ ∃ t, exec .incHL s = .next t :=
  ⟨rfl, rfl, rfl, rfl, fun _ => rfl, _, rfl⟩

theorem witness_DiTakesEffectOneInstructionLater_di :
    let s := (code 0xC000 [0xF3]).setIme true
    s.halt = false ∧ fetched s = .di ∧ (∃ u, exec (fetched s) (atExecution s) = .next u) ∧
      ∃ t, step s = .next t := ⟨rfl, by decide +kernel, ⟨_, rfl⟩, ⟨_, rfl⟩⟩

theorem witness_DiTakesEffectOneInstructionLater_next :
    let s := ((code 0xC000 [0x00]).setIme true).setDip true
    s.halt = false ∧ fetched s ≠ .di ∧ s.dip = true ∧ (∃ u, exec (fetched s) (atExecution s) = .next u) ∧
      ∃ t, step s = .next t := ⟨rfl, by decide +kernel, rfl, ⟨_, rfl⟩, ⟨_, rfl⟩⟩

theorem witness_DiTakesEffectOneInstructionLater_none :
    let s := (code 0xC000 [0x00]).setIme true
    s.halt = false ∧ fetched s ≠ .di ∧ s.dip = false ∧ (∃ u, exec (fetched s) (atExecution s) = .next u) ∧
      ∃ t, step s = .next t := ⟨rfl, by decide +kernel, rfl, ⟨_, rfl⟩, ⟨_, rfl⟩⟩

/-- IF away from the push, with the stack as near to it as it can be. -/
theorem witness_ServiceIsTheTrapEntry :
    ifAddr ≠ (0xFF0F#16 - 1#16) ∧ ifAddr ≠ (0xFF0F#16 - 2#16) ∧
    ifAddr ≠ (0xFF12#16 - 1#16) ∧ ifAddr ≠ (0xFF12#16 - 2#16) := by decide

/-- For each source, a state in which it is the lowest one pending. -/
theorem witness_LowestPendingSourceIsServiced :
    ∀ k < 5, ((code 0xC000 [0x00]).setIme true).ime = true ∧
      ((((code 0xC000 [0x00]).setIme true).writeByte 0xFFFF 0xFF).writeByte 0xFF0F
        (0xFF#8 <<< k)).pending.getLsbD k = true ∧
      ∀ j < k, ((((code 0xC000 [0x00]).setIme true).writeByte 0xFFFF 0xFF).writeByte 0xFF0F
        (0xFF#8 <<< k)).pending.getLsbD j = false := by decide +kernel

/-- Pending bits that belong to no source. -/
theorem witness_LowestPendingSourceIsServiced_none :
    ∀ k < 5, (((code 0xC000 [0x00]).writeByte 0xFFFF 0xFF).writeByte 0xFF0F 0xE0).pending.getLsbD k = false := by
  decide +kernel

theorem witness_HaltWithNoSourceEnabledIsForEver :
    ((code 0xC000 []).setHalt true).halt = true ∧ ((code 0xC000 []).setHalt true).readByte ieAddr = 0#8 := by
  decide +kernel

theorem witness_ExternalRequestsSetBitsOfIf : State.reset.mem.wf ∧ State.reset.extIrq = [] := by decide

/-- EI with a source pending: the interrupt comes at the end of the same tick. -/
theorem witness_InterruptsArePrecise :
    let s := ((code 0xC000 [0xFB]).writeByte 0xFFFF 0x01).writeByte 0xFF0F 0x01
    s.halt = false ∧ s.dip = false ∧ ∃ u, exec (fetched s) (atExecution s) = .next u ∧ u.ime = true ∧
      firstPending (u.timerUpdate s.cyc u.cyc).pending = some .vblank :=
  ⟨rfl, rfl, _, rfl, rfl, by decide +kernel⟩

/-- I5: DI itself may be followed by a service in its own tick. -/
theorem witness_InterruptsArePrecise_di :
    let s := (((code 0xC000 [0xF3]).setIme true).writeByte 0xFFFF 0x01).writeByte 0xFF0F 0x01
    s.halt = false ∧ fetched s = .di ∧ ∃ u, exec (fetched s) (atExecution s) = .next u ∧ u.ime = true ∧
      firstPending (u.timerUpdate s.cyc u.cyc).pending = some .vblank :=
  ⟨rfl, by decide +kernel, _, rfl, rfl, by decide +kernel⟩

theorem witness_DivCountsEvery256Cycles :
    ([252, 12] : List Nat) ≠ [] ∧ (∀ d ∈ ([252, 12] : List Nat), d < 2 ^ 64) ∧
    (timerRun State.reset [252, 12]).readByte divAddr = 0x01 ∧ (timerRun State.reset [252, 12]).divAcc = 8 ∧
    State.reset.ovf = false ∧ timaEnabled (State.reset.readByte tacAddr) = false := by decide +kernel

/-- Each rate enabled, and one disabled; the remainder one cycle short of the period, and then it. -/
theorem witness_TimaCountsPeriods :
    State.reset.ovf = false ∧
    (∀ c ∈ ([(0x04, 1024), (0x05, 16), (0x06, 64), (0x07, 256)] : List (Byte × Nat)),
      c.1.toNat / 4 % 2 = 1 ∧
      ((State.reset.writeByte tacAddr c.1).timerUpdate 0 (BitVec.ofNat 64 (c.2 - 1))).readByte timaAddr = 0 ∧
      ((State.reset.writeByte tacAddr c.1).timerUpdate 0 (BitVec.ofNat 64 c.2)).readByte timaAddr = 1) ∧
    (0x01#8).toNat / 4 % 2 = 0 ∧
      ((State.reset.writeByte tacAddr 0x01).timerUpdate 0 32).timaAcc = 0 := by decide +kernel

theorem witness_TimaReloadIsOneUpdateLate :
    let s := (State.reset.writeByte tacAddr 0x05).writeByte timaAddr 0xFF
    s.ovf = false ∧ (s.timerUpdate 0 16).ovf = true ∧ (s.timerUpdate 0 16).readByte timaAddr = 0x00 := by
  decide +kernel

theorem witness_TimaReloadIsOneUpdateLate_due :
    let s : State := { State.reset.writeByte tmaAddr 0x10 with ovf := true }
    s.ovf = true ∧ timaEnabled (s.readByte tacAddr) = false ∧ (s.timerUpdate 0 12).readByte timaAddr = 0x10 := by
  decide +kernel

theorem witness_TacFields :
    (0xFD#8).toNat / 4 % 2 = 1 ∧ State.reset.ovf = false ∧ State.reset.timaAcc = 0 ∧
    (16#64 - 0#64).toNat = [1024, 16, 64, 256].getD ((0xFD#8).toNat % 4) 0 ∧ (0xFB#8).toNat / 4 % 2 = 0 := by
  decide

/-- The step that executed EI and was interrupted: 20 cycles more than its instruction. -/
theorem witness_TimerNeverSeesDispatchCycles :
    let s := ((code 0xC000 [0xFB]).writeByte 0xFFFF 0x01).writeByte 0xFF0F 0x01
    s.halt = false ∧ ∃ t u, step s = .next t ∧ exec (fetched s) (atExecution s) = .next u ∧ Charges 20 u t :=
  ⟨rfl, _, _, rfl, rfl, by unfold Charges; decide +kernel⟩

/-- A halted step with TIMA enabled, and the stack away from the timer's bytes. -/
theorem witness_TimerNeverSeesDispatchCycles_halted :
    let s := ((code 0xC001 []).setHalt true).writeByte tacAddr 0x05
    s.halt = true ∧ timaEnabled (s.readByte tacAddr) = true ∧
      divAddr ∉ [s.sp - 1#16, s.sp - 2#16] ∧ timaAddr ∉ [s.sp - 1#16, s.sp - 2#16] ∧
      ∃ t, step s = .next t ∧ t.timaAcc = 4 ∧ t.divAcc = 4 :=
  ⟨rfl, by decide +kernel, by decide +kernel, by decide +kernel, _, rfl, by decide +kernel, by decide +kernel⟩

/-- A is `CPL`. -/
theorem witness_StoreIsSeenByTheNextFetch :
    let s := ((code 0xC000 [0x77]).setReg .a 0x2F).setHl 0xC001
    s.halt = false ∧ s.ime = false ∧ s.extIrq = [] ∧ fetched s = .ldHLR .a ∧ s.hl = s.pc + 1#16 ∧
      s.hl ∉ [divAddr, timaAddr, ifAddr] ∧ Instr.wellFormed .cpl = true ∧ encode .cpl = [s.reg .a] := by
  decide +kernel

theorem witness_ResetTakesTheLaunchValues :
    let l : Launch := { Config.defaultLaunch with resetMem := [(0x0100, 0x11), (0x0100, 0x22), (0xFFFF, 0x33)] }
    l.resetMem = [(0x0100#16, 0x11#8)] ++ (0x0100#16, 0x22#8) :: [(0xFFFF#16, 0x33#8)] ∧
      ∀ p ∈ [(0xFFFF#16, 0x33#8)], p.1 ≠ 0x0100#16 := ⟨rfl, by simp⟩

theorem witness_StepKeepsTheInvariant : State.reset.Inv ∧ ∃ t, step State.reset = .next t :=
  ⟨by decide, _, rfl⟩

/-- Both lengths at the boundary. -/
theorem witness_LoadPlacesBytesFromAddressZero :
    (List.replicate 65536 (0x01 : Byte)).length ≤ 65536 ∧
    65536 < (List.replicate 65537 (0x01 : Byte)).length := by
  rw [List.length_replicate, List.length_replicate]
  omega

end Sys2Proof.Tests
end

namespace Sys2Proof.Machine

/-! ## The control bits under one instruction (rules R28, R29, R30)

Executing in a state overlaid with other values of IME, DIP and HALT gives the same state overlaid with
those values, but for the bits the instruction sets. Who writes a bit, and that no instruction reads it,
both follow from this one law. -/

/-- The state with other control bits. -/
def State.withControl (s : State) (ime dip halt : Bool) : State :=
  { s with ime := ime, dip := dip, halt := halt }

/-- A conditional instruction ends in one of two states, and the overlay passes through either. -/
theorem ite_next_withControl {c : Prop} [Decidable c] {x y t : State}
    (h : (if c then .next x else .next y : Host.Outcome State Fault Refusal) = .next t)
    (ime dip halt : Bool) :
    (if c then .next (x.withControl ime dip halt) else .next (y.withControl ime dip halt) :
      Host.Outcome State Fault Refusal) = .next (t.withControl ime dip halt) := by
  split at h <;> cases h
  · next hc => exact if_pos hc
  · next hc => exact if_neg hc

/-- No secondary instruction reads or writes a control bit. -/
theorem execPrefixCb_withControl {op2 : Byte} {s t : State} (h : execPrefixCb op2 s = .next t)
    (ime dip halt : Bool) :
    execPrefixCb op2 (s.withControl ime dip halt) = .next (t.withControl ime dip halt) := by
  unfold execPrefixCb at h ⊢
  split at h <;> cases h <;> rfl

/-- No instruction reads a control bit; EI and RETI set IME, DI sets DIP, HALT sets HALT, and there is no
other write. An operation on a pair says what it writes only once the pair is known. -/
theorem exec_withControl {i : Instr} {s t : State} (h : exec i s = .next t) (ime dip halt : Bool) :
    exec i (s.withControl ime dip halt) = .next (t.withControl
      (if i = .ei ∨ i = .reti then true else ime) (if i = .di then true else dip)
      (if i = .halt then true else halt)) := by
  cases i with
  | stop n => cases h
  | prefixCb op2 => exact execPrefixCb_withControl h ime dip halt
  | jpCC | jrCC | callCC | retCC => exact ite_next_withControl h ime dip halt
  | ldPairNN p _ | incPair p | decPair p | pop p => cases p <;> cases h <;> rfl
  | _ => cases h; rfl

/-- The writers of the control bits: the overlay law for the state's own bits. -/
theorem exec_control {i : Instr} {s t : State} (h : exec i s = .next t) :
    t.ime = (if i = .ei ∨ i = .reti then true else s.ime) ∧
    t.dip = (if i = .di then true else s.dip) ∧
    t.halt = (if i = .halt then true else s.halt) := by
  have hself := h.symm.trans (exec_withControl h s.ime s.dip s.halt)
  injection hself with ht
  exact ⟨congrArg State.ime ht, congrArg State.dip ht, congrArg State.halt ht⟩

/-- Rule R29: no instruction reads DIP. -/
theorem exec_setDip {i : Instr} {s t : State} (h : exec i s = .next t) (v : Bool) :
    exec i (s.setDip v) = .next (t.setDip (if i = .di then true else v)) := by
  obtain ⟨hime, -, hhalt⟩ := exec_control h
  calc exec i (s.setDip v)
      = .next (t.withControl _ (if i = .di then true else v) _) :=
        exec_withControl h s.ime v s.halt
    _ = .next (t.withControl t.ime (if i = .di then true else v) t.halt) := by rw [hime, hhalt]
    _ = .next (t.setDip (if i = .di then true else v)) := rfl

/-- Rule R311: a pending DI is resolved by a tick that executed something other than DI. -/
theorem State.resolveDi_of_pending {s : State} {executed wasDi : Bool}
    (h : s.dip = true ∧ executed = true ∧ wasDi = false) :
    s.resolveDi executed wasDi = (s.setIme false).setDip false := by
  obtain ⟨hs, -⟩ | ⟨-, hnone⟩ := s.resolveDi_cases executed wasDi
  · exact hs
  · simp [h] at hnone

/-- Rule R311: step 5 of any other tick changes nothing. -/
theorem State.resolveDi_of_not_pending {s : State} {executed wasDi : Bool}
    (h : ¬ (s.dip = true ∧ executed = true ∧ wasDi = false)) :
    s.resolveDi executed wasDi = s := by
  obtain ⟨-, hpending⟩ | ⟨hs, -⟩ := s.resolveDi_cases executed wasDi
  · exact absurd hpending h
  · exact hs

/-- Settles O38: the instruction clauses by the overlay law of the control bits, the resolution by its
two cases. -/
theorem dipHasTheseWritersOnly : Obligations.DipHasTheseWritersOnly := by
  unfold Obligations.DipHasTheseWritersOnly
  refine ⟨fun i s t h => ?_, State.writeByte_dip, fun s e b a => ?_, fun s executed wasDi =>
    ⟨fun h => ?_, State.resolveDi_of_not_pending⟩, fun i s t v h => exec_setDip h v⟩
  · obtain ⟨-, hdip, -⟩ := exec_control h
    exact hdip
  · exact ⟨s.acceptIrq_dip e, s.timerUpdate_dip b a, s.interruptController_dip⟩
  · rw [State.resolveDi_of_pending h]
    exact ⟨rfl, rfl⟩

end Sys2Proof.Machine

namespace Sys2Proof.Machine

/-! ## One byte written (rule R61) -/

/-- Rule R61: a store changes no control state, hidden state or record. -/
theorem State.writeByte_keepsControl (s : State) (a : Addr) (v : Byte) :
    KeepsControl s (s.writeByte a v) :=
  ⟨s.writeByte_ime a v, s.writeByte_dip a v, s.writeByte_halt a v, s.writeByte_divAcc a v,
    s.writeByte_timaAcc a v, s.writeByte_ovf a v, s.writeByte_extIrq a v, s.writeByte_reports a v⟩

/-- Settles O28: the two memory clauses are the two cases of what a read returns after a store, the rest
the frame of the store. -/
theorem byteWriteChangesThatByteOnly : Obligations.ByteWriteChangesThatByteOnly := by
  unfold Obligations.ByteWriteChangesThatByteOnly
  intro s a v
  refine ⟨?same, fun x hx => ?other, s.writeByte_regs a v, s.writeByte_flags a v,
    s.writeByte_sp a v, s.writeByte_pc a v, s.writeByte_cyc a v, s.writeByte_keepsControl a v⟩
  case same => rw [State.readByte_writeByte, if_pos rfl]
  case other => rw [State.readByte_writeByte, if_neg hx]

end Sys2Proof.Machine

namespace Sys2Proof.Machine

/-! ## The 8-bit adder and subtractor (rule R150) -/

/-- Rule R150: the sum is taken mod 256. -/
theorem add8_value_toNat (a b : Byte) (cin : Bool) :
    (add8 a b cin).value.toNat = (a.toNat + b.toNat + cin.toNat) % 256 :=
  BitVec.toNat_ofNat ..

/-- Rule R150: half-carry is a nibble sum past 15. -/
theorem add8_half_iff (a b : Byte) (cin : Bool) :
    (add8 a b cin).half = true ↔ a.toNat % 16 + b.toNat % 16 + cin.toNat > 0xF :=
  decide_eq_true_iff

/-- Rule R150: carry is a byte sum past 255. -/
theorem add8_carry_iff (a b : Byte) (cin : Bool) :
    (add8 a b cin).carry = true ↔ a.toNat + b.toNat + cin.toNat > 0xFF :=
  decide_eq_true_iff

/-- Rule R150: the difference is taken mod 256, its representative nonnegative. -/
theorem sub8_value_toNat (a b : Byte) (cin : Bool) :
    ((sub8 a b cin).value.toNat : Int) = ((a.toNat : Int) - b.toNat - cin.toNat) % 256 := by
  have hnonneg : 0 ≤ ((a.toNat : Int) - b.toNat - cin.toNat) % 256 :=
    Int.emod_nonneg _ (by decide)
  calc ((sub8 a b cin).value.toNat : Int)
      = ((((a.toNat : Int) - b.toNat - cin.toNat) % 256).toNat : Int) :=
        congrArg Nat.cast (BitVec.toNat_ofInt ..)
    _ = ((a.toNat : Int) - b.toNat - cin.toNat) % 256 := Int.toNat_of_nonneg hnonneg

/-- Rule R150: the half-borrow compares the nibbles. -/
theorem sub8_half_iff (a b : Byte) (cin : Bool) :
    (sub8 a b cin).half = true ↔ a.toNat % 16 < b.toNat % 16 + cin.toNat :=
  decide_eq_true_iff

/-- Rule R150: the borrow compares the bytes. -/
theorem sub8_carry_iff (a b : Byte) (cin : Bool) :
    (sub8 a b cin).carry = true ↔ a.toNat < b.toNat + cin.toNat :=
  decide_eq_true_iff

/-! ### The Zero flag of every user of the adder -/

/-- ADD, ADC, SUB and SBC (rules R152 to R155) all end by writing the result to A and its Zero test to Z:
Z then says whether A is 0. -/
theorem State.z_iff_a_eq_zero_of_write (s : State) (r : Byte) (n h c : Bool) :
    ((s.setReg .a r).setFlags ⟨r == 0#8, n, h, c⟩).flags.z = true ↔
      ((s.setReg .a r).setFlags ⟨r == 0#8, n, h, c⟩).reg .a = 0#8 := by
  have ha : ((s.setReg .a r).setFlags ⟨r == 0#8, n, h, c⟩).reg .a = r := by simp
  rw [ha]
  exact beq_iff_eq

/-- Rule R159: CP writes no register, so its Zero flag speaks of the difference itself. -/
theorem State.cpA_z_iff (s : State) (v : Byte) :
    (s.cpA v).flags.z = true ↔ (sub8 (s.reg .a) v false).value = 0#8 := by
  rw [State.cpA_flags, beq_iff_eq]

/-- Rules R160, R161: the Zero flag of INC. -/
theorem State.incSlot_z_iff (s : State) (x : Slot) :
    (s.incSlot x).flags.z = true ↔ (add8 (s.slot x) 1#8 false).value = 0#8 := by
  rw [State.incSlot_flags, beq_iff_eq]

/-- Rules R162, R163: the Zero flag of DEC. -/
theorem State.decSlot_z_iff (s : State) (x : Slot) :
    (s.decSlot x).flags.z = true ↔ (sub8 (s.slot x) 1#8 false).value = 0#8 := by
  rw [State.decSlot_flags, beq_iff_eq]

/-- Settles O32: the laws of the adder and the subtractor; the four operations that write A share one
Zero law, and CP, INC and DEC have one each. -/
theorem adderLaws : Obligations.AdderLaws := by
  unfold Obligations.AdderLaws
  refine ⟨fun a b cin => ⟨?adder, ?subtractor⟩, fun s v x => ⟨?add, ?adc, ?sub, ?sbc,
    s.cpA_z_iff v, s.incSlot_z_iff x, s.decSlot_z_iff x⟩⟩
  case adder => exact ⟨add8_value_toNat a b cin, add8_half_iff a b cin, add8_carry_iff a b cin⟩
  case subtractor =>
    exact ⟨sub8_value_toNat a b cin, sub8_half_iff a b cin, sub8_carry_iff a b cin⟩
  case add => exact s.z_iff_a_eq_zero_of_write (add8 (s.reg .a) v false).value ..
  case adc => exact s.z_iff_a_eq_zero_of_write (add8 (s.reg .a) v s.flags.c).value ..
  case sub => exact s.z_iff_a_eq_zero_of_write (sub8 (s.reg .a) v false).value ..
  case sbc => exact s.z_iff_a_eq_zero_of_write (sub8 (s.reg .a) v s.flags.c).value ..

end Sys2Proof.Machine

namespace Sys2Proof.Machine

/-! ## The stack primitives (rule R180) -/

/-- Rule R180: the two bytes of a push lie at different addresses, wherever SP wraps. -/
theorem sub_one_ne_sub_two (sp : Addr) : sp - 1#16 ≠ sp - 2#16 := by bv_omega

/-- Rule R180: a push stores the high byte at SP-1; the low byte, stored after it, does not overwrite it. -/
theorem State.readByte_push16_high (s : State) (v : Word) :
    (s.push16 v).readByte (s.sp - 1#16) = hiByte v := by
  rw [State.readByte_push16, if_neg (sub_one_ne_sub_two s.sp), if_pos rfl]

/-- Rule R180: a push stores the low byte at SP-2. -/
theorem State.readByte_push16_low (s : State) (v : Word) :
    (s.push16 v).readByte (s.sp - 2#16) = loByte v := by
  rw [State.readByte_push16, if_pos rfl]

/-- Rule R180: a push stores no third byte. -/
theorem State.push16_keepsBytes (s : State) (v : Word) :
    KeepsBytes [s.sp - 1#16, s.sp - 2#16] s (s.push16 v) := by
  intro x hx
  obtain ⟨hhigh, hlow⟩ : x ≠ s.sp - 1#16 ∧ x ≠ s.sp - 2#16 := by simpa using hx
  rw [State.readByte_push16, if_neg hlow, if_neg hhigh]

/-- The round-trip law of rule R180, the stack pointer. -/
theorem State.popSp_push16_sp (s : State) (v : Word) : (s.push16 v).popSp.sp = s.sp := by
  calc (s.push16 v).popSp.sp
      = s.sp - 2#16 + 2#16 := by rw [State.popSp_sp, State.push16_sp]
    _ = s.sp := BitVec.sub_add_cancel ..

/-- Settles O30: a push by its two bytes and its frame, a pop by its definition, the round trip by its
two laws. -/
theorem pushThenPopReturnsTheValue : Obligations.PushThenPopReturnsTheValue := by
  unfold Obligations.PushThenPopReturnsTheValue
  intro s v
  refine ⟨?push, ?pop, ?roundTrip⟩
  case push =>
    exact ⟨s.readByte_push16_high v, s.readByte_push16_low v, s.push16_keepsBytes v, s.push16_sp v⟩
  case pop => exact ⟨rfl, s.popSp_sp⟩
  case roundTrip => exact ⟨s.popValue_push16 v, s.popSp_push16_sp v⟩

end Sys2Proof.Machine

namespace Sys2Proof.Machine

/-! ## 16-bit additions and counts (rules R190 to R194) -/

/-- Rule R190: sign extension sets the high byte of an offset that counts as negative. -/
theorem sext16_toNat (e : Byte) :
    (sext16 e).toNat = if e.toNat < 0x80 then e.toNat else 0xFF00 + e.toNat := by
  have he := e.isLt
  have hmsb : e.msb = decide (0x80 ≤ e.toNat) := BitVec.msb_eq_decide e
  rw [sext16, BitVec.toNat_signExtend, BitVec.toNat_setWidth, hmsb]
  by_cases hpos : e.toNat < 0x80
  · rw [if_pos hpos, if_neg (by simpa using hpos)]
    omega
  · rw [if_neg hpos, if_pos (by simpa using hpos)]
    omega

/-- Rule R12: sign extension adds 65536 to a negative offset, and nothing else. -/
theorem sext16_toNat_emod (e : Byte) : ((sext16 e).toNat : Int) = signedOffset e % 65536 := by
  have he := e.isLt
  rw [sext16_toNat, signedOffset]
  by_cases hpos : e.toNat < 128
  · rw [if_pos hpos, if_pos hpos]
    omega
  · rw [if_neg hpos, if_neg hpos]
    omega

/-- Rule R190: the sum is taken mod 65536. -/
theorem addSp_value_toNat (sp : Word) (e : Byte) :
    (addSp sp e).value.toNat = (sp.toNat + (sext16 e).toNat) % 65536 :=
  BitVec.toNat_add ..

/-- Rule R190: the sum takes the offset signed. -/
theorem addSp_value_toNat_signed (sp : Word) (e : Byte) :
    (addSp sp e).value.toNat = (((sp.toNat : Int) + signedOffset e) % 65536).toNat := by
  have hsext := sext16_toNat_emod e
  rw [addSp_value_toNat]
  omega

/-- Rule R190: half-carry is the sum of the low nibbles past 15, the offset unsigned. -/
theorem addSp_half_iff (sp : Word) (e : Byte) :
    (addSp sp e).half = true ↔ sp.toNat % 16 + e.toNat % 16 > 0xF :=
  decide_eq_true_iff

/-- Rule R190: carry is the sum of the low bytes past 255, the offset unsigned. -/
theorem addSp_carry_iff (sp : Word) (e : Byte) :
    (addSp sp e).carry = true ↔ sp.toNat % 256 + e.toNat > 0xFF :=
  decide_eq_true_iff

/-- Settles O34: sign extension as a number, and the three components of the helper. -/
theorem stackPointerOffsetHelper : Obligations.StackPointerOffsetHelper := by
  unfold Obligations.StackPointerOffsetHelper
  exact fun sp e =>
    ⟨sext16_toNat e, addSp_value_toNat sp e, addSp_half_iff sp e, addSp_carry_iff sp e⟩

/-- Rule R191: the sum is taken mod 65536. -/
theorem add16_value_toNat (x y : Word) : (add16 x y).value.toNat = (x.toNat + y.toNat) % 65536 :=
  BitVec.toNat_ofNat ..

/-! ### One pair written -/

/-- A write to the flags leaves every pair of table rp alone. -/
@[simp] theorem State.setFlags_pair (s : State) (f : Flags) (p : Pair) :
    (s.setFlags f).pair p = s.pair p := by cases p <;> rfl

/-- Charged cycles leave every pair of table rp alone. -/
@[simp] theorem State.charge_pair (s : State) (n : Nat) (p : Pair) :
    (s.charge n).pair p = s.pair p := by cases p <;> rfl

/-- Rule R22: no pair of table rp shares a register with another. -/
theorem State.pair_setPair_of_ne (s : State) {p q : Pair} (h : q ≠ p) (v : Word) :
    (s.setPair p v).pair q = s.pair q := by
  cases p <;> cases q
  case bc.bc | de.de | hl.hl | sp.sp => exact absurd rfl h
  all_goals rfl

/-- No pair of table rp holds A. -/
@[simp] theorem State.setPair_reg_a (s : State) (p : Pair) (v : Word) :
    (s.setPair p v).reg .a = s.reg .a := by cases p <;> rfl

/-- A pair written, with the flags as they were, is the pair written. -/
theorem State.setPair_setFlags_self (s : State) (p : Pair) (v : Word) :
    (s.setPair p v).setFlags s.flags = s.setPair p v := by cases p <;> rfl

/-- All five instructions end by writing one pair and the flags: the rest is the frame of these two
writes. -/
theorem changesPair_of_exec {i : Instr} {s : State} {p : Pair} {v : Word} {f : Flags} {n : Nat}
    (h : exec i s = .next (((s.setPair p v).setFlags f).charge n)) :
    ChangesPair i s p v.toNat f n := by
  refine ⟨_, h, ?written, rfl, fun q hq => ?others, ?a, fun x _ => ?bytes, ?pc, ?cyc, ?control⟩
  case written => simp
  case others => simp [State.pair_setPair_of_ne s hq]
  case a => simp
  case bytes => simp
  case pc => simp
  case cyc => simp [Charges]
  case control => simp [KeepsControl, KeepsHidden]

/-- Settles O16: each instruction writes one pair, its value a sum of rules R190, R191, R193, R194. -/
theorem sixteenBitArithmetic : Obligations.SixteenBitArithmetic := by
  unfold Obligations.SixteenBitArithmetic
  intro s p e
  refine ⟨?addHL, ?addSP, ?ldHL, ?inc, ?dec⟩
  case addHL =>
    rw [← add16_value_toNat]
    exact changesPair_of_exec (p := .hl) (exec_addHLPair p s)
  case addSP =>
    rw [← addSp_value_toNat_signed]
    exact changesPair_of_exec (p := .sp) (exec_addSPE e s)
  case ldHL =>
    rw [← addSp_value_toNat_signed]
    exact changesPair_of_exec (p := .hl) (exec_ldHLSPE e s)
  case inc =>
    have hsum : (s.pair p + 1#16).toNat = ((s.pair p).toNat + 1) % 65536 := BitVec.toNat_add ..
    rw [← hsum]
    exact changesPair_of_exec (by rw [State.setPair_setFlags_self, exec_incPair])
  case dec =>
    have hdiff : (s.pair p - 1#16).toNat = ((s.pair p).toNat + 65535) % 65536 := by bv_omega
    rw [← hdiff]
    exact changesPair_of_exec (by rw [State.setPair_setFlags_self, exec_decPair])

end Sys2Proof.Machine

namespace Sys2Proof

/-! ## The secondary table and the encoder are inverse (rules R96, R99, R104) -/

/-- The code of a location (rule R92). -/
def Slot.code (x : Slot) : BitVec 3 :=
  match x with
  | .reg r => r.code
  | .hl => 6#3

/-- Bits 7 to 3 of an operation's secondary opcodes (rule R96). -/
def CbOp.code (o : CbOp) : BitVec 5 :=
  match o with
  | .rlc => 0#5
  | .rrc => 1#5
  | .rl => 2#5
  | .rr => 3#5
  | .sla => 4#5
  | .sra => 5#5
  | .swap => 6#5
  | .srl => 7#5
  | .bit b => 1#2 ++ b
  | .res b => 2#2 ++ b
  | .set b => 3#2 ++ b

@[simp] theorem Slot.ofCode_slotCode (x : Slot) : Slot.ofCode x.code = x := by
  cases x with
  | reg r => exact Slot.ofCode_code r
  | hl => rfl

@[simp] theorem fieldZ_append (k : BitVec 5) (z : BitVec 3) : fieldZ (k ++ z) = z := by
  apply BitVec.eq_of_toNat_eq
  unfold fieldZ
  rw [BitVec.extractLsb'_toNat, BitVec.toNat_append, ← Nat.shiftLeft_add_eq_or_of_lt z.isLt]
  omega

@[simp] theorem CbOp.ofByte_append (o : CbOp) (z : BitVec 3) : CbOp.ofByte (o.code ++ z) = o := by
  cases o with
  | bit b | res b | set b => revert b z; decide
  | _ => revert z; decide

/-- Every operation on every location has a secondary opcode. -/
theorem decodeSecondary_append (o : CbOp) (x : Slot) :
    decodeSecondary (o.code ++ x.code) = o.toInstr x := by
  simp [decodeSecondary]

/-- The instruction of a secondary opcode is encoded as that opcode: the whole table, 256 entries. -/
theorem encode_decodeSecondary (op2 : Byte) : encode (decodeSecondary op2) = [0xCB#8, op2] := by
  revert op2; decide

theorem CbOp.toInstr_wellFormed (o : CbOp) (x : Slot) : (o.toInstr x).wellFormed = true := by
  cases o <;> cases x <;> rfl

theorem decodeSecondary_wellFormed (op2 : Byte) : (decodeSecondary op2).wellFormed = true :=
  CbOp.toInstr_wellFormed _ _

/-- Only the instructions of the secondary table start with the escape byte: the others have one byte,
three bytes, or another first byte. -/
theorem exists_toInstr_of_encode_escape {i : Instr} {op2 : Byte} (hw : i.wellFormed = true)
    (h : encode i = [0xCB#8, op2]) : ∃ o x, i = CbOp.toInstr o x := by
  cases i with
  | rlcR r => exact ⟨.rlc, .reg r, rfl⟩
  | rlcHL => exact ⟨.rlc, .hl, rfl⟩
  | rrcR r => exact ⟨.rrc, .reg r, rfl⟩
  | rrcHL => exact ⟨.rrc, .hl, rfl⟩
  | rlR r => exact ⟨.rl, .reg r, rfl⟩
  | rlHL => exact ⟨.rl, .hl, rfl⟩
  | rrR r => exact ⟨.rr, .reg r, rfl⟩
  | rrHL => exact ⟨.rr, .hl, rfl⟩
  | slaR r => exact ⟨.sla, .reg r, rfl⟩
  | slaHL => exact ⟨.sla, .hl, rfl⟩
  | sraR r => exact ⟨.sra, .reg r, rfl⟩
  | sraHL => exact ⟨.sra, .hl, rfl⟩
  | swapR r => exact ⟨.swap, .reg r, rfl⟩
  | swapHL => exact ⟨.swap, .hl, rfl⟩
  | srlR r => exact ⟨.srl, .reg r, rfl⟩
  | srlHL => exact ⟨.srl, .hl, rfl⟩
  | bitR b r => exact ⟨.bit b, .reg r, rfl⟩
  | bitHL b => exact ⟨.bit b, .hl, rfl⟩
  | resR b r => exact ⟨.res b, .reg r, rfl⟩
  | resHL b => exact ⟨.res b, .hl, rfl⟩
  | setR b r => exact ⟨.set b, .reg r, rfl⟩
  | setHL b => exact ⟨.set b, .hl, rfl⟩
  | prefixCb _ => cases hw
  | ldRN dst _ => cases dst <;> simp [encode, Reg8.code] at h
  | jrCC cc _ => cases cc <;> simp [encode, Cond.code] at h
  | stop _ | ldHLN _ | ldhAN _ | ldhNA _ | addAN _ | adcAN _ | subAN _ | sbcAN _ | andAN _ | xorAN _
  | orAN _ | cpAN _ | ldHLSPE _ | addSPE _ | jrE _ => simp [encode] at h
  | _ => cases congrArg List.length h

/-- The escape byte and a secondary opcode are the encoding of one instruction only. -/
theorem eq_decodeSecondary_of_encode {i : Instr} {op2 : Byte} (hw : i.wellFormed = true)
    (h : encode i = [0xCB#8, op2]) : i = decodeSecondary op2 := by
  obtain ⟨o, x, rfl⟩ := exists_toInstr_of_encode_escape hw h
  rw [← decodeSecondary_append, encode_decodeSecondary] at h
  obtain rfl : o.code ++ x.code = op2 := by simpa using h
  exact (decodeSecondary_append o x).symm

/-! ## Only the opcode 0x10 decodes to STOP (rules R98, R252) -/

theorem incOf_ne_stop (x : Slot) (n : Byte) : incOf x ≠ .stop n := by
  cases x <;> nofun

theorem decOf_ne_stop (x : Slot) (n : Byte) : decOf x ≠ .stop n := by
  cases x <;> nofun

theorem ldNOf_ne_stop (x : Slot) (v n : Byte) : ldNOf x v ≠ .stop n := by
  cases x <;> nofun

theorem ldOf_ne_stop (x y : Slot) (n : Byte) : ldOf x y ≠ .stop n := by
  cases x <;> cases y <;> nofun

theorem aluOf_ne_stop (y : BitVec 3) (x : Slot) (n : Byte) : aluOf y x ≠ .stop n := by
  unfold aluOf
  split <;> nofun

theorem aluNOf_ne_stop (y : BitVec 3) (v n : Byte) : aluNOf y v ≠ .stop n := by
  unfold aluNOf
  split <;> nofun

theorem CbOp.toInstr_ne_stop (o : CbOp) (x : Slot) (n : Byte) : o.toInstr x ≠ .stop n := by
  cases o <;> cases x <;> nofun

theorem unmatchedOf_ne_stop (op n : Byte) : unmatchedOf op ≠ .stop n := by
  simp [unmatchedOf, apply_ite (· ≠ Instr.stop n)]

/-- The one row of the primary table that builds STOP is the row of 0x10. -/
theorem row_of_build_eq_stop : ∀ row ∈ primaryRows, ∀ op n1 n2 n : Byte,
    row.build op n1 n2 = .stop n → row.mask = 0xFF#8 ∧ row.pattern = 0x10#8 := by
  simp [primaryRows, rowsControl, rowsLow, rowsMiddle, rowsHigh, rowOp, rowN, rowNN, decodeSecondary,
    incOf_ne_stop, decOf_ne_stop, ldNOf_ne_stop, ldOf_ne_stop, aluOf_ne_stop, aluNOf_ne_stop,
    CbOp.toInstr_ne_stop]

theorem decodeBytes_stop (n1 n2 : Byte) : decodeBytes 0x10#8 n1 n2 = .stop n1 := rfl

theorem opcode_of_decodeBytes_eq_stop {op n1 n2 n : Byte} (h : decodeBytes op n1 n2 = .stop n) :
    op = 0x10#8 := by
  unfold decodeBytes at h
  split at h
  · next row hrow =>
    obtain ⟨hmask, hpattern⟩ :=
      row_of_build_eq_stop row (List.mem_of_find?_eq_some hrow) op n1 n2 n h
    have hmatch : op &&& row.mask = row.pattern := by simpa using List.find?_some hrow
    rw [hmask, hpattern] at hmatch
    exact (BitVec.and_allOnes (x := op)).symm.trans hmatch
  · exact absurd h (unmatchedOf_ne_stop op n)

end Sys2Proof

namespace Sys2Proof.Machine

/-! ## Which instructions and steps have a next state (rules R10, R252, R259) -/

theorem exec_stop (n : Byte) (s : State) : exec (.stop n) s = .refused .stopOpcode := rfl

/-- Rule R259: the escape byte runs the instruction of the secondary opcode. -/
theorem exec_prefixCb (op2 : Byte) (s : State) :
    exec (.prefixCb op2) s = exec (decodeSecondary op2) s := by
  show execPrefixCb op2 s = _
  unfold execPrefixCb decodeSecondary
  cases CbOp.ofByte op2 <;> cases Slot.ofCode (fieldZ op2) <;> rfl

theorem exec_toInstr_next (o : CbOp) (x : Slot) (s : State) :
    ∃ t, exec (o.toInstr x) s = .next t := by
  cases o <;> cases x <;> exact ⟨_, rfl⟩

theorem exec_prefixCb_next (op2 : Byte) (s : State) : ∃ t, exec (.prefixCb op2) s = .next t := by
  rw [exec_prefixCb]
  exact exec_toInstr_next _ _ s

theorem exists_ite_eq_next {c : Prop} [Decidable c] {x y : State} :
    ∃ t, (if c then .next x else .next y : Host.Outcome State Fault Refusal) = .next t := by
  split <;> exact ⟨_, rfl⟩

/-- Rule R10: every instruction but STOP has a next state. -/
theorem exec_next_of_ne_stop {i : Instr} (h : ∀ n, i ≠ .stop n) (s : State) :
    ∃ t, exec i s = .next t := by
  cases i with
  | stop n => exact absurd rfl (h n)
  | prefixCb op2 => exact exec_prefixCb_next op2 s
  | jpCC | jrCC | callCC | retCC => exact exists_ite_eq_next
  | _ => exact ⟨_, rfl⟩

theorem State.instrAtPc_stop {s : State} (h : s.readByte s.pc = 0x10#8) :
    s.instrAtPc = .stop (s.readByte (s.pc + 1#16)) := by
  rw [State.instrAtPc, h, decodeBytes_stop]

theorem State.instrAtPc_ne_stop {s : State} (h : s.readByte s.pc ≠ 0x10#8) (n : Byte) :
    s.instrAtPc ≠ .stop n :=
  fun hstop => h (opcode_of_decodeBytes_eq_stop hstop)

/-- A tick whose instruction is refused is refused (rules R252, R300). -/
theorem tick_refused {s : State} {e : Byte} {r : Refusal} (h : s.halt = false)
    (hr : exec (s.acceptIrq e).instrAtPc ((s.acceptIrq e).advance (s.acceptIrq e).instrAtPc) =
      .refused r) :
    tick e s = .refused r := by
  simp [tick, h, hr]

theorem step_stop {s : State} (h : s.fetchesStop) : step s = .refused .stopOpcode := by
  obtain ⟨hhalt, hop⟩ := h
  have hinstr := State.instrAtPc_stop (s := s.dropExtIrq.acceptIrq s.nextExtIrq) hop
  rw [step_eq]
  exact tick_refused (s := s.dropExtIrq) hhalt (by rw [hinstr, exec_stop])

theorem step_next_of_not_fetchesStop {s : State} (h : ¬ s.fetchesStop) : ∃ t, step s = .next t := by
  cases hhalt : s.halt with
  | true => exact ⟨_, step_halted hhalt⟩
  | false =>
    have hop : (s.acceptIrq s.nextExtIrq).readByte s.pc ≠ 0x10#8 := fun hop => h ⟨hhalt, hop⟩
    have hinstr := State.instrAtPc_ne_stop (s := s.dropExtIrq.acceptIrq s.nextExtIrq) hop
    obtain ⟨u, hu⟩ := exec_next_of_ne_stop hinstr _
    exact ⟨_, step_executed hhalt hu⟩

/-- Settles O5: the opcode 0x10 alone decodes to STOP, and STOP alone has no next state. -/
theorem onlyStopIsRefused : Obligations.OnlyStopIsRefused := by
  unfold Obligations.OnlyStopIsRefused
  exact ⟨exec_stop, fun s => ⟨step_next_of_not_fetchesStop, step_stop⟩⟩

/-- Settles O6: the escape byte runs the instruction of the secondary opcode, and that is the only one
with this encoding. -/
theorem escapeByteRunsTheSecondaryInstruction :
    Obligations.EscapeByteRunsTheSecondaryInstruction := by
  unfold Obligations.EscapeByteRunsTheSecondaryInstruction
  intro op2 s
  refine ⟨fun i hw henc => ?same, ⟨_, decodeSecondary_wellFormed op2, encode_decodeSecondary op2⟩,
    exec_prefixCb_next op2 s⟩
  case same =>
    rw [exec_prefixCb, ← eq_decodeSecondary_of_encode hw henc]

end Sys2Proof.Machine

namespace Sys2Proof.Machine

/-! ## The trap entry (rule R308) -/

/-- Rule R33: the mask of the trap entry clears one bit of a byte and keeps the others. -/
theorem getLsbD_clearBit (v : Byte) (n : Nat) {k : Nat} (hk : k < 8) :
    (v &&& ~~~(1#8 <<< n)).getLsbD k = (v.getLsbD k && k != n) := by
  have hmask : (1#8 <<< n).getLsbD k = (k == n) := by
    rw [← BitVec.twoPow_eq, BitVec.getLsbD_twoPow]
    by_cases hkn : k = n
    · simp [hkn, hkn ▸ hk]
    · simp [hkn, Ne.symm hkn]
  rw [BitVec.getLsbD_and, BitVec.getLsbD_not, hmask, decide_eq_true hk, Bool.true_and]
  rfl

/-- Rule R308: the entry stores the high byte of PC at SP-1, even where that is IF. -/
theorem State.readByte_service_high (s : State) (i : IrqSource) :
    (s.service i).readByte (s.sp - 1#16) = hiByte s.pc := by
  rw [State.readByte_service, if_neg (sub_one_ne_sub_two s.sp), if_pos rfl]

/-- Rule R308: the entry stores the low byte of PC at SP-2, even where that is IF. -/
theorem State.readByte_service_low (s : State) (i : IrqSource) :
    (s.service i).readByte (s.sp - 2#16) = loByte s.pc := by
  rw [State.readByte_service, if_pos rfl]

/-- Rule R308: with the push elsewhere, IF loses the bit of the source. -/
theorem State.readByte_service_if {s : State} (hhigh : ifAddr ≠ s.sp - 1#16)
    (hlow : ifAddr ≠ s.sp - 2#16) (i : IrqSource) :
    (s.service i).readByte ifAddr = s.readByte ifAddr &&& ~~~(1#8 <<< i.bit) := by
  rw [State.readByte_service, if_neg hlow, if_neg hhigh, if_pos rfl]

/-- Rule R308: the entry stores to no fourth byte. -/
theorem State.service_keepsBytes (s : State) (i : IrqSource) :
    KeepsBytes [s.sp - 1#16, s.sp - 2#16, ifAddr] s (s.service i) := by
  intro x hx
  obtain ⟨hhigh, hlow, hif⟩ : x ≠ s.sp - 1#16 ∧ x ≠ s.sp - 2#16 ∧ x ≠ ifAddr := by simpa using hx
  rw [State.readByte_service, if_neg hlow, if_neg hhigh, if_neg hif]

/-- Rule R308: the entry changes nothing of the timer's hidden state and of the records. -/
theorem State.service_keepsHidden (s : State) (i : IrqSource) : KeepsHidden s (s.service i) :=
  ⟨s.service_divAcc i, s.service_timaAcc i, s.service_ovf i, s.service_extIrq i, s.service_reports i⟩

/-- Settles O42: memory by the four laws of a read after the entry, every other field by its own. -/
theorem serviceIsTheTrapEntry : Obligations.ServiceIsTheTrapEntry := by
  unfold Obligations.ServiceIsTheTrapEntry
  intro s i
  refine ⟨s.service_ime i, s.service_halt i, s.service_sp i, s.service_pc i, s.service_cyc i,
    s.readByte_service_high i, s.readByte_service_low i, fun hhigh hlow k hk => ?ifBits,
    s.service_keepsBytes i, s.service_regs i, s.service_flags i, s.service_dip i,
    s.service_keepsHidden i⟩
  case ifBits => rw [State.readByte_service_if hhigh hlow, getLsbD_clearBit _ _ hk]

/-! ## DIV (rule R318) -/

/-- Rule R318: DIV after one update. -/
theorem State.readByte_timerUpdate_div (s : State) (b a : BitVec 64) :
    (s.timerUpdate b a).readByte divAddr =
      s.readByte divAddr + BitVec.ofNat 8 ((s.divAcc + (a - b).toNat) / 256) := by
  have htima : ¬ (divAddr = timaAddr ∧ timaEnabled (s.readByte tacAddr) = true) :=
    fun ⟨haddr, _⟩ => absurd haddr (by decide)
  rw [State.readByte_timerUpdate, if_neg htima, if_pos rfl]

theorem timerRun_cons (s : State) (d : Nat) (ds : List Nat) :
    timerRun s (d :: ds) = timerRun (s.timerUpdate 0#64 (BitVec.ofNat 64 d)) ds := rfl

/-- An update of a run sees the cycles it is given, if they fit the counter. -/
theorem toNat_elapsed {d : Nat} (hd : d < 2 ^ 64) : (BitVec.ofNat 64 d - 0#64).toNat = d := by
  rw [BitVec.sub_zero, BitVec.toNat_ofNat, Nat.mod_eq_of_lt hd]

/-- Rule R318: a run adds to DIV the whole number of 256s and keeps what is left, so that no cycle is
lost between two updates. -/
theorem timerRun_div (s : State) (d : Nat) (ds : List Nat) (h : ∀ e ∈ d :: ds, e < 2 ^ 64) :
    (timerRun s (d :: ds)).readByte divAddr =
      s.readByte divAddr + BitVec.ofNat 8 ((s.divAcc + (d :: ds).sum) / 256) ∧
    (timerRun s (d :: ds)).divAcc = (s.divAcc + (d :: ds).sum) % 256 := by
  induction ds generalizing s d with
  | nil =>
    have hd := toNat_elapsed (h d List.mem_cons_self)
    have hcount := s.readByte_timerUpdate_div 0#64 (BitVec.ofNat 64 d)
    have hacc := s.timerUpdate_divAcc 0#64 (BitVec.ofNat 64 d)
    rw [hd] at hcount hacc
    exact ⟨hcount, hacc⟩
  | cons e es ih =>
    obtain ⟨hd, hes⟩ := List.forall_mem_cons.mp h
    have hcarry : (s.divAcc + d) / 256 + ((s.divAcc + d) % 256 + (e :: es).sum) / 256 =
        (s.divAcc + (d :: e :: es).sum) / 256 := by
      rw [List.sum_cons (a := d)]
      omega
    obtain ⟨hcount, hacc⟩ := ih (s.timerUpdate 0#64 (BitVec.ofNat 64 d)) e hes
    rw [State.timerUpdate_divAcc, toNat_elapsed hd] at hcount hacc
    rw [timerRun_cons]
    constructor
    · rw [hcount, State.readByte_timerUpdate_div, toNat_elapsed hd, BitVec.add_assoc,
        ← BitVec.ofNat_add, hcarry]
    · rw [hacc, Nat.mod_add_mod, List.sum_cons (a := d), Nat.add_assoc]

/-- Rules R31, R318: no instruction writes the remainder of DIV. -/
theorem exec_divAcc {i : Instr} {s t : State} (h : exec i s = .next t) : t.divAcc = s.divAcc := by
  cases i with
  | stop n => cases h
  | prefixCb op2 =>
    change execPrefixCb op2 s = .next t at h
    unfold execPrefixCb at h
    split at h <;> cases h <;> rfl
  | jpCC cc nn | jrCC cc nn | callCC cc nn | retCC cc =>
    simp only [exec_jpCC, exec_jrCC, exec_callCC, exec_retCC] at h
    split at h <;> cases h <;> rfl
  | ldPairNN p _ | incPair p | decPair p | pop p => cases p <;> cases h <;> rfl
  | _ => cases h; rfl

/-- Rule R320: with no reload due, step 4 of the tick begins with the counting. -/
theorem State.timaReload_of_not_ovf {s : State} (h : s.ovf = false) : s.timaReload = s := by
  simp [State.timaReload, h]

/-- Rules R318, R319: with no reload due, an update counts in DIV and TIMA and stores nothing else. -/
theorem State.timerUpdate_keepsBytes {s : State} (h : s.ovf = false) (b a : BitVec 64) :
    KeepsBytes [divAddr, timaAddr] s (s.timerUpdate b a) := by
  intro x hx
  obtain ⟨hdiv, htima⟩ : x ≠ divAddr ∧ x ≠ timaAddr := by simpa using hx
  rw [State.readByte_timerUpdate, if_neg (fun ⟨haddr, _⟩ => htima haddr), if_neg hdiv,
    State.timaReload_of_not_ovf h]

/-- Rules R318, R319: with no reload due and TIMA disabled, an update counts in DIV alone. -/
theorem State.timerUpdate_keepsBytes_of_disabled {s : State} (h : s.ovf = false)
    (htac : timaEnabled (s.readByte tacAddr) = false) (b a : BitVec 64) :
    KeepsBytes [divAddr] s (s.timerUpdate b a) := by
  intro x hx
  have hdiv : x ≠ divAddr := by simpa using hx
  rw [State.readByte_timerUpdate, if_neg (by simp [htac]), if_neg hdiv,
    State.timaReload_of_not_ovf h]

/-- Settles O49: a run by induction over its updates, the remainder over the instructions, IF and the
disabled timer by what one update stores. -/
theorem divCountsEvery256Cycles : Obligations.DivCountsEvery256Cycles := by
  unfold Obligations.DivCountsEvery256Cycles
  refine ⟨fun s elapsed hne hlt => ?run, fun i s t h => exec_divAcc h, fun s v => ?store,
    fun s b a hovf => ⟨?noIrq, fun htac => State.timerUpdate_keepsBytes_of_disabled hovf htac b a⟩⟩
  case run =>
    cases elapsed with
    | nil => exact absurd rfl hne
    | cons d ds => exact timerRun_div s d ds hlt
  case store => rw [State.readByte_writeByte, if_pos rfl]
  case noIrq => exact State.timerUpdate_keepsBytes hovf b a ifAddr (by decide)

end Sys2Proof.Machine

namespace Sys2Proof

/-! ## The decoder inverts the encoder (rules R90 to R99) -/

/-- The eight values of a three-bit field (rule R91). -/
theorem bitVec3_cases (y : BitVec 3) :
    y = 0#3 ∨ y = 1#3 ∨ y = 2#3 ∨ y = 3#3 ∨ y = 4#3 ∨ y = 5#3 ∨ y = 6#3 ∨ y = 7#3 := by
  revert y; decide

/-- Format `OP_NN` (rules R90, R97): the two operand bytes are read back as one word. -/
theorem decode_encodeNN {op : Byte} {i : Word → Instr} (nn : Word) (rest : List Byte)
    (hlen : (decodeBytes op 0#8 0#8).length = 3)
    (hop : ∀ l u, decodeBytes op l u = i (join u l)) :
    decode (encodeNN op nn ++ rest) = .ok (i nn, rest) := by
  calc decode (encodeNN op nn ++ rest)
      = .ok (decodeBytes op (loByte nn) (hiByte nn), rest) := decode_three hlen
    _ = .ok (i nn, rest) := by rw [hop, join_hiByte_loByte]

/-- Rule R259: the escape byte sends the byte after it through the secondary table. -/
theorem decodeBytes_escape (op2 n : Byte) : decodeBytes 0xCB#8 op2 n = decodeSecondary op2 := rfl

/-- Format `CB_OP` (rules R90, R99): the secondary opcode is read back. -/
theorem decode_encode_of_escape {i : Instr} {op2 : Byte} (hw : i.wellFormed = true)
    (h : encode i = [0xCB#8, op2]) (rest : List Byte) : decode (encode i ++ rest) = .ok (i, rest) := by
  calc decode (encode i ++ rest)
      = .ok (decodeBytes 0xCB#8 op2 (rest.getD 0 0#8), rest) := by rw [h]; exact decode_two rfl
    _ = .ok (i, rest) := by rw [decodeBytes_escape, eq_decodeSecondary_of_encode hw h]

/-- Settles O1, by the format of the encoding: one byte, with an operand byte, with an operand word, or
in the secondary table. An operand inside the opcode is taken through its codes. -/
theorem decodeInvertsEncode : Obligations.DecodeInvertsEncode := by
  unfold Obligations.DecodeInvertsEncode
  intro i rest hw
  cases i with
  | prefixCb op2 => cases hw
  | ldRR dst src => cases dst <;> cases src <;> exact decode_one rfl
  | ldRHL r | ldHLR r | addAR r | adcAR r | subAR r | sbcAR r | andAR r | xorAR r | orAR r | cpAR r
  | incR r | decR r => cases r <;> exact decode_one rfl
  | push p | pop p | addHLPair p | incPair p | decPair p => cases p <;> exact decode_one rfl
  | retCC cc => cases cc <;> exact decode_one rfl
  | rst t =>
    obtain rfl | rfl | rfl | rfl | rfl | rfl | rfl | rfl := bitVec3_cases t
    all_goals exact decode_one rfl
  | ldRN r n => cases r <;> exact decode_two rfl
  | jrCC cc e => cases cc <;> exact decode_two rfl
  | stop n | ldHLN n | ldhAN n | ldhNA n | addAN n | adcAN n | subAN n | sbcAN n | andAN n | xorAN n
  | orAN n | cpAN n | ldHLSPE n | addSPE n | jrE n => exact decode_two rfl
  | ldANN nn | ldNNA nn | ldNNSP nn | jpNN nn | callNN nn =>
    exact decode_encodeNN nn rest rfl fun _ _ => rfl
  | ldPairNN p nn => cases p <;> exact decode_encodeNN nn rest rfl fun _ _ => rfl
  | jpCC cc nn | callCC cc nn => cases cc <;> exact decode_encodeNN nn rest rfl fun _ _ => rfl
  | rlcR | rlcHL | rrcR | rrcHL | rlR | rlHL | rrR | rrHL | slaR | slaHL | sraR | sraHL | swapR | swapHL
  | srlR | srlHL | bitR | bitHL | resR | resHL | setR | setHL =>
    exact decode_encode_of_escape hw rfl rest
  | _ => exact decode_one rfl

/-! ### The encoder inverts the decoder -/

/-- The encoding of an instruction has its length (rule R90). -/
theorem encode_length (i : Instr) : (encode i).length = i.length := by
  cases i <;> rfl

/-- An instruction has one to three bytes (rule R90). -/
theorem Instr.length_bounds (i : Instr) : 1 ≤ i.length ∧ i.length ≤ 3 := by
  cases i <;> exact ⟨Nat.le_of_ble_eq_true rfl, Nat.le_of_ble_eq_true rfl⟩

/-- The instruction is well-formed, and its bytes are the first ones of `op`, `n1`, `n2`. -/
def Instr.isReadFrom (i : Instr) (op n1 n2 : Byte) : Prop :=
  i.wellFormed = true ∧ encode i = [op, n1, n2].take i.length

/-- The instructions that the row builds from the opcode bytes it matches are encoded as the bytes they
are built from. -/
def DecodeRow.invertible (row : DecodeRow) : Prop :=
  ∀ op n1 n2 : Byte, op &&& row.mask = row.pattern → (row.build op n1 n2).isReadFrom op n1 n2

/-- A row of one opcode byte. -/
theorem invertible_of_one_opcode {op : Byte} {f : Byte → Byte → Byte → Instr}
    (h : ∀ n1 n2, (f op n1 n2).isReadFrom op n1 n2) : DecodeRow.invertible ⟨0xFF#8, op, f⟩ := by
  intro op' n1 n2 hop
  obtain rfl : op' = op := (BitVec.and_allOnes (x := op')).symm.trans hop
  exact h n1 n2

/-- A row of one-byte instructions: the operands are in the opcode, so its bytes can be listed. -/
theorem invertible_rowOp {m p : Byte} {f : Byte → Instr}
    (h : ∀ op, op &&& m = p → (f op).length = 1 ∧ (f op).wellFormed = true ∧ encode (f op) = [op]) :
    (rowOp m p f).invertible := by
  intro op n1 n2 hop
  obtain ⟨hlen, hw, henc⟩ := h op hop
  refine ⟨hw, ?_⟩
  show encode (f op) = [op, n1, n2].take (f op).length
  rw [hlen, henc]
  rfl

/-- A row of two-byte instructions. -/
theorem invertible_rowN {m p : Byte} {f : Byte → Byte → Instr}
    (h : ∀ op n, op &&& m = p →
      (f op n).length = 2 ∧ (f op n).wellFormed = true ∧ encode (f op n) = [op, n]) :
    (rowN m p f).invertible := by
  intro op n1 n2 hop
  obtain ⟨hlen, hw, henc⟩ := h op n1 hop
  refine ⟨hw, ?_⟩
  show encode (f op n1) = [op, n1, n2].take (f op n1).length
  rw [hlen, henc]
  rfl

/-- A row of three-byte instructions. -/
theorem invertible_rowNN {m p : Byte} {f : Byte → Word → Instr}
    (h : ∀ op nn, op &&& m = p →
      (f op nn).length = 3 ∧ (f op nn).wellFormed = true ∧ encode (f op nn) = encodeNN op nn) :
    (rowNN m p f).invertible := by
  intro op n1 n2 hop
  obtain ⟨hlen, hw, henc⟩ := h op (join n2 n1) hop
  refine ⟨hw, ?_⟩
  show encode (f op (join n2 n1)) = [op, n1, n2].take (f op (join n2 n1)).length
  rw [hlen, henc, encodeNN, loByte_join, hiByte_join]
  rfl

/-- A row of one opcode byte with an operand word. -/
theorem invertible_of_one_opcode_word {op : Byte} {f : Byte → Word → Instr}
    (h : ∀ nn, (f op nn).length = 3 ∧ (f op nn).wellFormed = true ∧
      encode (f op nn) = encodeNN op nn) :
    (rowNN 0xFF#8 op f).invertible := by
  refine invertible_rowNN fun op' nn hop => ?_
  obtain rfl : op' = op := (BitVec.and_allOnes (x := op')).symm.trans hop
  exact h nn

theorem ldNOf_encoding (x : Slot) (n : Byte) : (ldNOf x n).length = 2 ∧
    (ldNOf x n).wellFormed = true ∧ encode (ldNOf x n) = [0b00#2 ++ x.code ++ 0b110#3, n] := by
  cases x <;> exact ⟨rfl, rfl, rfl⟩

theorem aluNOf_encoding (y : BitVec 3) (n : Byte) : (aluNOf y n).length = 2 ∧
    (aluNOf y n).wellFormed = true ∧ encode (aluNOf y n) = [0b11#2 ++ y ++ 0b110#3, n] := by
  obtain rfl | rfl | rfl | rfl | rfl | rfl | rfl | rfl := bitVec3_cases y
  all_goals exact ⟨rfl, rfl, rfl⟩

theorem decodeSecondary_isReadFrom (op2 n : Byte) :
    (decodeSecondary op2).isReadFrom 0xCB#8 op2 n := by
  refine ⟨decodeSecondary_wellFormed op2, ?_⟩
  rw [encode_decodeSecondary, decodeSecondary_length]
  rfl

theorem rowsControl_invertible : ∀ row ∈ rowsControl, row.invertible := by
  simp only [rowsControl, List.forall_mem_cons, List.not_mem_nil, IsEmpty.forall_iff, implies_true,
    and_true]
  and_intros
  on_goal 6 => exact invertible_of_one_opcode decodeSecondary_isReadFrom
  all_goals exact invertible_of_one_opcode fun _ _ => ⟨rfl, rfl⟩

theorem rowsLow_invertible : ∀ row ∈ rowsLow, row.invertible := by
  have hjr : ∀ op : Byte, op &&& 0xE7 = 0x20 →
      0b001#3 ++ (Cond.ofCode (fieldC op)).code ++ 0b000#3 = op := by decide
  have hld : ∀ op : Byte, op &&& 0xCF = 0x01 →
      0b00#2 ++ (Pair.ofCode (fieldP op)).code ++ 0b0001#4 = op := by decide
  simp only [rowsLow, List.forall_mem_cons, List.not_mem_nil, IsEmpty.forall_iff, implies_true,
    and_true]
  and_intros
  on_goal 15 => exact invertible_rowOp (by decide)
  on_goal 14 => exact invertible_rowOp (by decide)
  on_goal 13 => exact invertible_rowOp (by decide)
  on_goal 12 =>
    exact invertible_rowNN fun op nn h => ⟨rfl, rfl, congrArg (encodeNN · nn) (hld op h)⟩
  on_goal 3 => exact invertible_rowN fun op e h => ⟨rfl, rfl, congrArg ([·, e]) (hjr op h)⟩
  on_goal 1 => exact invertible_of_one_opcode_word fun _ => ⟨rfl, rfl, rfl⟩
  all_goals exact invertible_of_one_opcode fun _ _ => ⟨rfl, rfl⟩

theorem rowsMiddle_invertible : ∀ row ∈ rowsMiddle, row.invertible := by
  have hld : ∀ op : Byte, op &&& 0xC7 = 0x06 →
      0b00#2 ++ (Slot.ofCode (fieldY op)).code ++ 0b110#3 = op := by decide
  have halu : ∀ op : Byte, op &&& 0xC7 = 0xC6 → 0b11#2 ++ fieldY op ++ 0b110#3 = op := by decide
  simp only [rowsMiddle, List.forall_mem_cons, List.not_mem_nil, IsEmpty.forall_iff, implies_true,
    and_true]
  and_intros
  on_goal 12 =>
    refine invertible_rowN fun op n h => ?_
    obtain ⟨hlen, hw, henc⟩ := aluNOf_encoding (fieldY op) n
    exact ⟨hlen, hw, henc.trans (congrArg ([·, n]) (halu op h))⟩
  on_goal 6 =>
    refine invertible_rowN fun op n h => ?_
    obtain ⟨hlen, hw, henc⟩ := ldNOf_encoding (.ofCode (fieldY op)) n
    exact ⟨hlen, hw, henc.trans (congrArg ([·, n]) (hld op h))⟩
  on_goal 3 => exact invertible_of_one_opcode fun _ _ => ⟨rfl, rfl⟩
  all_goals exact invertible_rowOp (by decide)

theorem rowsHigh_invertible : ∀ row ∈ rowsHigh, row.invertible := by
  have hjp : ∀ op : Byte, op &&& 0xE7 = 0xC2 →
      0b110#3 ++ (Cond.ofCode (fieldC op)).code ++ 0b010#3 = op := by decide
  have hcall : ∀ op : Byte, op &&& 0xE7 = 0xC4 →
      0b110#3 ++ (Cond.ofCode (fieldC op)).code ++ 0b100#3 = op := by decide
  simp only [rowsHigh, List.forall_mem_cons, List.not_mem_nil, IsEmpty.forall_iff, implies_true,
    and_true]
  and_intros
  on_goal 17 => exact invertible_of_one_opcode_word fun _ => ⟨rfl, rfl, rfl⟩
  on_goal 16 => exact invertible_of_one_opcode_word fun _ => ⟨rfl, rfl, rfl⟩
  on_goal 11 => exact invertible_rowOp (by decide)
  on_goal 10 => exact invertible_rowOp (by decide)
  on_goal 9 => exact invertible_rowOp (by decide)
  on_goal 6 =>
    exact invertible_rowNN fun op nn h => ⟨rfl, rfl, congrArg (encodeNN · nn) (hcall op h)⟩
  on_goal 5 => exact invertible_of_one_opcode_word fun _ => ⟨rfl, rfl, rfl⟩
  on_goal 4 =>
    exact invertible_rowNN fun op nn h => ⟨rfl, rfl, congrArg (encodeNN · nn) (hjp op h)⟩
  on_goal 2 => exact invertible_of_one_opcode_word fun _ => ⟨rfl, rfl, rfl⟩
  on_goal 1 => exact invertible_rowOp (by decide)
  all_goals exact invertible_of_one_opcode fun _ _ => ⟨rfl, rfl⟩

theorem primaryRows_invertible : ∀ row ∈ primaryRows, row.invertible := by
  simp only [primaryRows, List.forall_mem_append]
  exact ⟨⟨⟨rowsControl_invertible, rowsLow_invertible⟩, rowsMiddle_invertible⟩, rowsHigh_invertible⟩

/-- Rule R100: an opcode that no row matches is one of the eleven, and is its own encoding. -/
theorem encode_unmatchedOf {op : Byte}
    (h : (primaryRows.find? fun row => op &&& row.mask == row.pattern).isNone = true) :
    (unmatchedOf op).length = 1 ∧ (unmatchedOf op).wellFormed = true ∧ encode (unmatchedOf op) = [op] := by
  revert op; decide +kernel

theorem decodeBytes_isReadFrom (op n1 n2 : Byte) : (decodeBytes op n1 n2).isReadFrom op n1 n2 := by
  unfold decodeBytes
  cases h : primaryRows.find? fun row => op &&& row.mask == row.pattern with
  | some row =>
    have hmatch : op &&& row.mask = row.pattern := by simpa using List.find?_some h
    exact primaryRows_invertible row (List.mem_of_find?_eq_some h) op n1 n2 hmatch
  | none =>
    obtain ⟨hlen, hw, henc⟩ := encode_unmatchedOf (Option.isNone_iff_eq_none.mpr h)
    refine ⟨hw, ?_⟩
    show encode (unmatchedOf op) = [op, n1, n2].take (unmatchedOf op).length
    rw [hlen, henc]
    rfl

/-- Three bytes are enough for any instruction (rule R90). -/
theorem decode_three_bytes (op n1 n2 : Byte) : decode [op, n1, n2] =
    .ok (decodeBytes op n1 n2, [op, n1, n2].drop (decodeBytes op n1 n2).length) := by
  obtain ⟨hpos, hle⟩ := (decodeBytes op n1 n2).length_bounds
  have hneed := decodeBytes_length op 0#8 0#8 n1 n2
  have hdrop : [n1, n2].drop ((decodeBytes op n1 n2).length - 1) =
      [op, n1, n2].drop (decodeBytes op n1 n2).length := by
    obtain ⟨k, hk⟩ := Nat.exists_eq_add_of_le' hpos
    rw [hk]
    rfl
  show (if 3 < (decodeBytes op 0#8 0#8).length then _ else _) = _
  rw [hneed, if_neg (by omega), ← hdrop]
  rfl

/-- Settles O2: every row of the primary table builds an instruction that is encoded as the bytes it was
built from, and so is every unmatched opcode. -/
theorem encodeInvertsDecode : Obligations.EncodeInvertsDecode := by
  unfold Obligations.EncodeInvertsDecode
  intro op n1 n2
  obtain ⟨hw, henc⟩ := decodeBytes_isReadFrom op n1 n2
  exact ⟨hw, henc, decode_three_bytes op n1 n2⟩

/-- Settles O3: fifteen runs of the decoder. -/
theorem wordsDecodeAsTheSpecWritesThem : Obligations.WordsDecodeAsTheSpecWritesThem := by
  unfold Obligations.WordsDecodeAsTheSpecWritesThem
  and_intros <;> rfl

end Sys2Proof

namespace Sys2Proof.Machine

/-! ## The step taken apart (rule R300) -/

/-- Rules R300, R311, R305: a step that executes `fetched s` ends in the rest of the tick. -/
theorem step_of_exec {s u : State} (h : s.halt = false)
    (hu : exec (fetched s) (atExecution s) = .next u) :
    step s = .next (executedBeforeController s u).interruptController :=
  step_executed h hu

/-- Rules R252, R300: a refusal of the instruction is the step's. -/
theorem step_of_refused {s : State} {r : Refusal} (h : s.halt = false)
    (hr : exec (fetched s) (atExecution s) = .refused r) : step s = .refused r :=
  tick_refused (s := s.dropExtIrq) h hr

/-- Rules R300, R326: a halted step charges and does the rest of the tick; nothing is resolved. -/
theorem step_of_halted {s : State} (h : s.halt = true) :
    step s = .next (haltedBeforeController s).interruptController := by
  rw [step_halted h]
  show Host.Outcome.next (State.interruptController (State.resolveDi _ false false)) = _
  rw [State.resolveDi_of_not_pending (by simp)]
  rfl

/-- Everything a step with a next state can have done (rule R300). -/
theorem step_next_cases {s t : State} (h : step s = .next t) :
    (s.halt = true ∧ t = (haltedBeforeController s).interruptController) ∨
    (s.halt = false ∧ ∃ u, exec (fetched s) (atExecution s) = .next u ∧
      t = (executedBeforeController s u).interruptController) := by
  cases hhalt : s.halt with
  | true =>
    rw [step_of_halted hhalt] at h
    exact .inl ⟨rfl, (Host.Outcome.next.inj h).symm⟩
  | false =>
    obtain ⟨hhalted, -⟩ | ⟨-, u, hu, ht⟩ := tick_cases (s := s.dropExtIrq) h
    · exact absurd (hhalted.symm.trans hhalt) (by decide)
    · exact .inr ⟨rfl, u, hu, ht⟩

/-- The instruction that three bytes at PC decode to is the one a step fetches. -/
theorem eq_fetched_of_decode {s : State} {i : Instr} {rest : List Byte}
    (h : decode [(afterRequests s).readByte s.pc, (afterRequests s).readByte (s.pc + 1#16),
      (afterRequests s).readByte (s.pc + 2#16)] = .ok (i, rest)) : i = fetched s := by
  rw [decode_three_bytes] at h
  injection h with hpair
  exact (congrArg Prod.fst hpair).symm

/-- Settles O4: the decoded instruction is the fetched one, and `exec` then answers in one of three
ways. -/
theorem stepRunsTheDecodedInstruction : Obligations.StepRunsTheDecodedInstruction := by
  unfold Obligations.StepRunsTheDecodedInstruction
  intro s i rest hhalt hdecode
  obtain rfl := eq_fetched_of_decode hdecode
  rw [encode_length]
  change step s = match exec (fetched s) (atExecution s) with
    | .next t => _
    | .fault f => _
    | .refused r => _
  cases hexec : exec (fetched s) (atExecution s) with
  | next u => exact step_of_exec hhalt hexec
  | fault f => cases f
  | refused r => exact step_of_refused hhalt hexec

end Sys2Proof.Machine

namespace Sys2Proof.Machine

/-! ## The invariant of the state (rules R31, R41, R326) -/

/-- What every well-formed instruction does between its two states, and what a secondary instruction
does, the escape byte does too: it runs a secondary instruction (rule R259). -/
theorem exec_of_wellFormed {P : Instr → State → State → Prop}
    (hP : ∀ {i s t}, i.wellFormed = true → exec i s = .next t → P i s t)
    (hescape : ∀ {op2 s t}, P (decodeSecondary op2) s t → P (.prefixCb op2) s t)
    {i : Instr} {s t : State} (h : exec i s = .next t) : P i s t := by
  cases i with
  | prefixCb op2 =>
    rw [exec_prefixCb] at h
    exact hescape (hP (decodeSecondary_wellFormed op2) h)
  | _ => exact hP rfl h

/-- A conditional instruction ends in one of two states. -/
theorem of_ite_next {c : Prop} [Decidable c] {x y t : State} {P : State → Prop}
    (h : (if c then .next x else .next y : Host.Outcome State Fault Refusal) = .next t)
    (hx : P x) (hy : P y) : P t := by
  split at h <;> cases h
  · exact hx
  · exact hy

/-- Every instruction keeps the canonical form of memory: it stores nothing, one byte, or two. -/
theorem exec_wf {i : Instr} {s t : State} (h : exec i s = .next t) (hwf : s.mem.wf) : t.mem.wf := by
  refine exec_of_wellFormed (P := fun _ s t => s.mem.wf → t.mem.wf) (fun {i s t} hi h hwf => ?_) id h
    hwf
  cases i with
  | prefixCb op2 => cases hi
  | stop n => cases h
  | jpCC | jrCC | retCC => exact of_ite_next (P := fun t => t.mem.wf) h hwf hwf
  | callCC => exact of_ite_next (P := fun t => t.mem.wf) h (State.wf_push16 hwf _) hwf
  | push | callNN | rst => cases h; exact State.wf_push16 hwf _
  | ldNNSP => cases h; exact State.wf_writeByte (State.wf_writeByte hwf _ _) _ _
  | ldHLR | ldHLN | ldBCA | ldDEA | ldNNA | ldhCA | ldhNA | ldHLIA | ldHLDA | incHL | decHL | rlcHL
  | rrcHL | rlHL | rrHL | slaHL | sraHL | swapHL | srlHL | resHL | setHL =>
    cases h; exact State.wf_writeByte hwf _ _
  | ldPairNN p _ | incPair p | decPair p | pop p => cases p <;> cases h <;> exact hwf
  | _ => cases h; exact hwf

/-- Rule R31: no instruction writes the remainder of TIMA. -/
theorem exec_timaAcc {i : Instr} {s t : State} (h : exec i s = .next t) : t.timaAcc = s.timaAcc := by
  refine exec_of_wellFormed (P := fun _ s t => t.timaAcc = s.timaAcc) (fun {i s t} hi h => ?_) id h
  cases i with
  | prefixCb op2 => cases hi
  | stop n => cases h
  | jpCC | jrCC | retCC | callCC =>
    exact of_ite_next (P := fun t => t.timaAcc = s.timaAcc) h rfl rfl
  | ldPairNN p _ | incPair p | decPair p | pop p => cases p <;> cases h <;> rfl
  | _ => cases h; rfl

/-- Rules R31, R321: an update keeps the TIMA remainder below the longest period, enabled or not. -/
theorem State.timerUpdate_timaAcc_lt {s : State} (h : s.timaAcc < 1024) (b a : BitVec 64) :
    (s.timerUpdate b a).timaAcc < 1024 := by
  obtain ⟨hpos, hle⟩ := timaPeriod_bounds (s.readByte tacAddr)
  rw [State.timerUpdate_timaAcc]
  split
  · exact Nat.lt_of_lt_of_le (Nat.mod_lt _ hpos) hle
  · exact h

/-- Rule R305: the controller never enters halt mode. -/
theorem State.halt_of_interruptController {s : State} (h : s.interruptController.halt = true) :
    s.halt = true := by
  obtain ⟨hs, -⟩ | ⟨hs, hhalt, -⟩ | ⟨i, -, -, hs⟩ := s.interruptController_cases
  · exact hs ▸ h
  · exact hhalt
  · rw [hs] at h
    cases h

/-- Rule R305: the controller keeps the invariant. -/
theorem State.inv_interruptController {s : State} (h : s.Inv) : s.interruptController.Inv := by
  obtain ⟨hwf, hdiv, htima, hdip⟩ := h
  refine ⟨State.wf_interruptController hwf, ?_, ?_, fun hhalt => ?_⟩
  · rwa [State.interruptController_divAcc]
  · rwa [State.interruptController_timaAcc]
  · rw [State.interruptController_dip]
    exact hdip (State.halt_of_interruptController hhalt)

/-- Rules R300, R304: the requests of a tick keep memory in canonical form. -/
theorem wf_afterRequests {s : State} (h : s.mem.wf) : (afterRequests s).mem.wf :=
  State.wf_writeByte (s := s.dropExtIrq) h _ _

/-- Rules R31, R326: a halted step meets the invariant before the controller. -/
theorem inv_haltedBeforeController {s : State} (h : s.Inv) : (haltedBeforeController s).Inv := by
  obtain ⟨hwf, -, htima, hdip⟩ := h
  refine ⟨State.wf_timerUpdate ?_ _ _, ?_, ?_, fun hhalt => ?_⟩
  · exact wf_afterRequests hwf
  · rw [haltedBeforeController, State.timerUpdate_divAcc]
    exact Nat.mod_lt _ (by decide)
  · exact State.timerUpdate_timaAcc_lt (s := (afterRequests s).charge haltTickCycles) htima _ _
  · rw [haltedBeforeController, State.timerUpdate_halt] at hhalt
    rw [haltedBeforeController, State.timerUpdate_dip]
    exact hdip hhalt

/-- Rule R311: no DI is pending after step 5 of a tick that executed something else. -/
theorem State.resolveDi_dip_executed (s : State) : (s.resolveDi true false).dip = false := by
  obtain ⟨hs, -⟩ | ⟨hs, hdip | hexec | hdi⟩ := s.resolveDi_cases true false
  · rw [hs]
    rfl
  · rw [hs, hdip]
  · cases hexec
  · cases hdi

/-- Rules R31, R311: an executing step meets the invariant before the controller. HALT can only be 1 if
the instruction was HALT, and then step 5 resolved a pending DI. -/
theorem inv_executedBeforeController {s u : State} (h : s.Inv) (hrun : s.halt = false)
    (hu : exec (fetched s) (atExecution s) = .next u) : (executedBeforeController s u).Inv := by
  obtain ⟨hwf, -, htima, -⟩ := h
  have hwfu : u.mem.wf := exec_wf hu (wf_afterRequests hwf)
  have htimau : u.timaAcc < 1024 := by rw [exec_timaAcc hu]; exact htima
  refine ⟨?_, ?_, ?_, fun hhalt => ?_⟩
  · rw [executedBeforeController, State.resolveDi_mem]
    exact State.wf_timerUpdate hwfu _ _
  · rw [executedBeforeController, State.resolveDi_divAcc, State.timerUpdate_divAcc]
    exact Nat.mod_lt _ (by decide)
  · rw [executedBeforeController, State.resolveDi_timaAcc]
    exact State.timerUpdate_timaAcc_lt htimau _ _
  · obtain ⟨-, -, hhaltu⟩ := exec_control hu
    rw [executedBeforeController, State.resolveDi_halt, State.timerUpdate_halt, hhaltu,
      show (atExecution s).halt = false from hrun] at hhalt
    have hinstr : fetched s = .halt := by simpa using hhalt
    rw [executedBeforeController, hinstr]
    exact State.resolveDi_dip_executed _

/-- Settles O57: the state before the controller meets the invariant in either kind of step, and the
controller keeps it. -/
theorem stepKeepsTheInvariant : Obligations.StepKeepsTheInvariant := by
  unfold Obligations.StepKeepsTheInvariant
  intro s t hinv hstep
  obtain ⟨-, rfl⟩ | ⟨hrun, u, hu, rfl⟩ := step_next_cases hstep
  · exact State.inv_interruptController (inv_haltedBeforeController hinv)
  · exact State.inv_interruptController (inv_executedBeforeController hinv hrun hu)

end Sys2Proof.Machine

namespace Sys2Proof.Machine

/-! ## Shapes of 8-bit instructions: what a whole class of them writes, and its frame -/

/-- Rules R20, R21: an instruction that ends by writing one register and the flags. -/
theorem changesReg_of_exec {i : Instr} {s : State} {dst : Reg8} {v : Byte} {f f' : Flags} {r n : Nat}
    (h : exec i s = .next (((s.setReg dst v).setFlags f).charge n)) (hr : v.toNat = r) (hf : f = f') :
    ChangesReg i s dst r f' n := by
  refine ⟨_, h, ?written, hf, fun x hx => ?others, fun _ _ => rfl, rfl, rfl, rfl, rfl, rfl, rfl, rfl,
    rfl, rfl, rfl, rfl⟩
  case written => simp [hr]
  case others =>
    have hne : x ≠ dst := by simpa using hx
    simp [hne]

/-- Rules R61, R21: an instruction that ends by writing the byte at HL and the flags. -/
theorem changesHlByte_of_exec {i : Instr} {s : State} {v : Byte} {f f' : Flags} {r n : Nat}
    (h : exec i s = .next (((s.writeByte s.hl v).setFlags f).charge n)) (hr : v.toNat = r)
    (hf : f = f') : ChangesHlByte i s r f' n := by
  refine ⟨_, h, ?written, hf, fun x hx => ?others, fun _ _ => rfl, rfl, rfl, rfl, rfl, rfl, rfl, rfl,
    rfl, rfl, rfl, rfl⟩
  case written => simp [hr]
  case others =>
    have hne : x ≠ s.hl := by simpa using hx
    simp [hne]

/-- Rule R21: an instruction that writes the flags alone. -/
theorem changesFlags_of_exec {i : Instr} {s : State} {f f' : Flags} {n : Nat}
    (h : exec i s = .next ((s.setFlags f).charge n)) (hf : f = f') : ChangesFlags i s f' n :=
  ⟨_, h, hf, fun _ _ => rfl, fun _ _ => rfl, rfl, rfl, rfl, rfl, rfl, rfl, rfl, rfl, rfl, rfl, rfl⟩

/-- An instruction that writes one register alone. -/
theorem loadsReg_of_exec {i : Instr} {s : State} {dst : Reg8} {v : Byte} {n : Nat}
    (h : exec i s = .next ((s.setReg dst v).charge n)) : LoadsReg i s dst v n := by
  obtain ⟨t, ht, -, hflags, hregs, hbytes, hdata⟩ :=
    changesReg_of_exec (f := s.flags) h rfl rfl
  refine ⟨t, ht, ?_, hregs, hflags, hbytes, hdata⟩
  cases h.symm.trans ht
  simp

/-- An instruction that stores one byte alone. -/
theorem storesByte_of_exec {i : Instr} {s : State} {a : Addr} {v : Byte} {n : Nat}
    (h : exec i s = .next ((s.writeByte a v).charge n)) : StoresByte i s a v n := by
  refine ⟨_, h, ?written, fun x hx => ?others, fun _ _ => rfl, rfl, rfl, rfl, rfl, rfl, rfl, rfl, rfl,
    rfl, rfl, rfl, rfl⟩
  case written => simp
  case others =>
    have hne : x ≠ a := by simpa using hx
    simp [hne]

/-! ## 8-bit transfers (rules R121 to R140) -/

/-- Rules R97, R140: the high page starts at 0xFF00. -/
theorem highPage_toNat (n : Byte) : (highPage n).toNat = 0xFF00 + n.toNat := by
  unfold highPage
  bv_omega

/-- Settles O7: each form writes one register. -/
theorem loadsWriteOneRegister : Obligations.LoadsWriteOneRegister := by
  unfold Obligations.LoadsWriteOneRegister
  exact fun s dst r n nn =>
    ⟨loadsReg_of_exec (exec_ldRR dst r s), loadsReg_of_exec (exec_ldRN dst n s),
      loadsReg_of_exec (exec_ldRHL dst s), loadsReg_of_exec (exec_ldABC s),
      loadsReg_of_exec (exec_ldADE s), loadsReg_of_exec (exec_ldANN nn s),
      loadsReg_of_exec (exec_ldhAC s), loadsReg_of_exec (exec_ldhAN n s), highPage_toNat n⟩

/-- Settles O8: each form stores one byte. -/
theorem storesWriteOneByte : Obligations.StoresWriteOneByte := by
  unfold Obligations.StoresWriteOneByte
  exact fun s r n nn =>
    ⟨storesByte_of_exec (exec_ldHLR r s), storesByte_of_exec (exec_ldHLN n s),
      storesByte_of_exec (exec_ldBCA s), storesByte_of_exec (exec_ldDEA s),
      storesByte_of_exec (exec_ldNNA nn s), storesByte_of_exec (exec_ldhCA s),
      storesByte_of_exec (exec_ldhNA n s)⟩

/-- Rule R22: HL reads back as written. -/
@[simp] theorem State.setHl_hl (s : State) (v : Word) : (s.setHl v).hl = v := by simp [State.hl]

@[simp] theorem State.charge_hl (s : State) (n : Nat) : (s.charge n).hl = s.hl := rfl

/-- Rules R136, R137: A takes the byte at HL before HL moves. -/
theorem loadsAndMovesHl_of_exec {i : Instr} {s : State} {step : Word} {n : Nat}
    (h : exec i s = .next (((s.setReg .a (s.readByte s.hl)).setHl (s.hl + step)).charge n)) :
    LoadsAndMovesHl i s step n := by
  refine ⟨_, h, ?a, ?hl, fun x hx => ?others, rfl, fun _ _ => rfl, rfl, rfl, rfl, rfl, rfl, rfl, rfl,
    rfl, rfl, rfl, rfl⟩
  case a => simp
  case hl => simp
  case others =>
    obtain ⟨ha, hh, hl⟩ : x ≠ .a ∧ x ≠ .h ∧ x ≠ .l := by simpa using hx
    simp [ha, hh, hl]

/-- Rules R138, R139: A goes to the byte at HL before HL moves. -/
theorem storesAndMovesHl_of_exec {i : Instr} {s : State} {step : Word} {n : Nat}
    (h : exec i s = .next (((s.writeByte s.hl (s.reg .a)).setHl (s.hl + step)).charge n)) :
    StoresAndMovesHl i s step n := by
  refine ⟨_, h, ?byte, ?hl, fun x hx => ?others, fun x hx => ?regs, rfl, rfl, rfl, rfl, rfl, rfl, rfl,
    rfl, rfl, rfl, rfl, rfl⟩
  case byte => simp
  case hl => simp
  case others =>
    have hne : x ≠ s.hl := by simpa using hx
    simp [hne]
  case regs =>
    obtain ⟨hh, hl⟩ : x ≠ .h ∧ x ≠ .l := by simpa using hx
    simp [hh, hl]

/-- Settles O9: the HL- forms move HL by adding 65535. -/
theorem transfersThroughHlMoveIt : Obligations.TransfersThroughHlMoveIt := by
  unfold Obligations.TransfersThroughHlMoveIt
  refine fun s => ⟨loadsAndMovesHl_of_exec (exec_ldAHLI s), loadsAndMovesHl_of_exec ?loadDown,
    storesAndMovesHl_of_exec (exec_ldHLIA s), storesAndMovesHl_of_exec ?storeDown⟩
  case loadDown => rw [← BitVec.sub_eq_add_neg, exec_ldAHLD]
  case storeDown => rw [← BitVec.sub_eq_add_neg, exec_ldHLDA]

/-! ## 8-bit arithmetic and logic (rules R150 to R163) -/

/-- Zero of a result is the test of its number. -/
theorem beq_zero_eq_decide (v : Byte) : (v == 0#8) = decide (v.toNat = 0) := by
  rw [Bool.eq_iff_iff, beq_iff_eq, decide_eq_true_iff, ← BitVec.toNat_inj]
  rfl

/-- Rules R150, R152, R153: the flags of a sum, by its number. -/
theorem add8_flags (a v : Byte) (cin : Bool) :
    (⟨(add8 a v cin).value == 0#8, false, (add8 a v cin).half, (add8 a v cin).carry⟩ : Flags) =
      { z := decide ((a.toNat + v.toNat + cin.toNat) % 256 = 0), n := false,
        h := decide (a.toNat % 16 + v.toNat % 16 + cin.toNat > 15),
        c := decide (a.toNat + v.toNat + cin.toNat > 255) } := by
  have hz : ((add8 a v cin).value == 0#8) = decide ((a.toNat + v.toNat + cin.toNat) % 256 = 0) := by
    rw [beq_zero_eq_decide, add8_value_toNat]
  rw [hz]
  rfl

/-- Rules R150, R154, R155, R159: the flags of a difference, by its number. -/
theorem sub8_flags (a v : Byte) (cin : Bool) :
    (⟨(sub8 a v cin).value == 0#8, true, (sub8 a v cin).half, (sub8 a v cin).carry⟩ : Flags) =
      subFlags a.toNat v.toNat cin.toNat := by
  have hz : ((sub8 a v cin).value == 0#8) =
      decide (((a.toNat : Int) - v.toNat - cin.toNat) % 256 = 0) := by
    rw [beq_zero_eq_decide, ← sub8_value_toNat, decide_eq_decide]
    exact Int.natCast_eq_zero.symm
  rw [hz]
  rfl

/-- Rules R152, R153: an instruction that ends by writing a sum to A and its flags. -/
theorem addsToA_of_exec {i : Instr} {s : State} {v : Byte} {cin : Bool} {n : Nat}
    (h : exec i s = .next (((s.setReg .a (add8 (s.reg .a) v cin).value).setFlags
      ⟨(add8 (s.reg .a) v cin).value == 0#8, false, (add8 (s.reg .a) v cin).half,
        (add8 (s.reg .a) v cin).carry⟩).charge n)) : AddsToA i s v cin n :=
  changesReg_of_exec h (add8_value_toNat ..) (add8_flags ..)

/-- Rules R154, R155: an instruction that ends by writing a difference to A and its flags. -/
theorem subtractsFromA_of_exec {i : Instr} {s : State} {v : Byte} {cin : Bool} {n : Nat}
    (h : exec i s = .next (((s.setReg .a (sub8 (s.reg .a) v cin).value).setFlags
      ⟨(sub8 (s.reg .a) v cin).value == 0#8, true, (sub8 (s.reg .a) v cin).half,
        (sub8 (s.reg .a) v cin).carry⟩).charge n)) : SubtractsFromA i s v cin n := by
  obtain ⟨t, ht, hvalue, hrest⟩ := changesReg_of_exec h rfl (sub8_flags ..)
  refine ⟨t, ht, ?_, hrest⟩
  rw [hvalue, sub8_value_toNat]

/-- Rule R159: an instruction that writes the flags of a difference alone. -/
theorem comparesWithA_of_exec {i : Instr} {s : State} {v : Byte} {n : Nat}
    (h : exec i s = .next ((s.cpA v).charge n)) : ComparesWithA i s v n :=
  changesFlags_of_exec h (sub8_flags ..)

/-- Settles O10: the three operand forms of each operation write the same result of the adder. -/
theorem addSubtractCompare : Obligations.AddSubtractCompare := by
  unfold Obligations.AddSubtractCompare
  refine fun s r n => ⟨⟨?_, ?_, ?_⟩, ⟨?_, ?_, ?_⟩, ⟨?_, ?_, ?_⟩, ⟨?_, ?_, ?_⟩, ⟨?_, ?_, ?_⟩⟩
  · exact addsToA_of_exec (exec_addAR r s)
  · exact addsToA_of_exec (exec_addAHL s)
  · exact addsToA_of_exec (exec_addAN n s)
  · exact addsToA_of_exec (exec_adcAR r s)
  · exact addsToA_of_exec (exec_adcAHL s)
  · exact addsToA_of_exec (exec_adcAN n s)
  · exact subtractsFromA_of_exec (exec_subAR r s)
  · exact subtractsFromA_of_exec (exec_subAHL s)
  · exact subtractsFromA_of_exec (exec_subAN n s)
  · exact subtractsFromA_of_exec (exec_sbcAR r s)
  · exact subtractsFromA_of_exec (exec_sbcAHL s)
  · exact subtractsFromA_of_exec (exec_sbcAN n s)
  · exact comparesWithA_of_exec (exec_cpAR r s)
  · exact comparesWithA_of_exec (exec_cpAHL s)
  · exact comparesWithA_of_exec (exec_cpAN n s)

/-- Rules R156 to R158: an instruction that ends by writing to A what it makes of A and `v` bit by bit,
and its flags. -/
theorem combinesWithA_of_exec {i : Instr} {s : State} {v r : Byte} {f : Bool → Bool → Bool}
    {half : Bool} {n : Nat}
    (h : exec i s = .next (((s.setReg .a r).setFlags ⟨r == 0#8, false, half, false⟩).charge n))
    (hr : ∀ k < 8, r.getLsbD k = f ((s.reg .a).getLsbD k) (v.getLsbD k)) :
    CombinesWithA i s v f half n := by
  obtain ⟨t, ht, hvalue, hflags, hrest⟩ := changesReg_of_exec h rfl rfl
  have ha : t.reg .a = r := BitVec.eq_of_toNat_eq hvalue
  refine ⟨t, ht, ?bits, ?flags, hrest⟩
  case bits => rwa [ha]
  case flags =>
    rw [hflags, ha]
    rfl

/-- Settles O11: the three operand forms of each operation write the same result of A and the operand. -/
theorem logicWorksBitByBit : Obligations.LogicWorksBitByBit := by
  unfold Obligations.LogicWorksBitByBit
  intro s r n
  have hand (v : Byte) (k : Nat) (_ : k < 8) := BitVec.getLsbD_and (x := s.reg .a) (y := v) (i := k)
  have hxor (v : Byte) (k : Nat) (_ : k < 8) := BitVec.getLsbD_xor (x := s.reg .a) (y := v) (i := k)
  have hor (v : Byte) (k : Nat) (_ : k < 8) := BitVec.getLsbD_or (x := s.reg .a) (y := v) (i := k)
  refine ⟨⟨?_, ?_, ?_⟩, ⟨?_, ?_, ?_⟩, ⟨?_, ?_, ?_⟩⟩
  · exact combinesWithA_of_exec (exec_andAR r s) (hand _)
  · exact combinesWithA_of_exec (exec_andAHL s) (hand _)
  · exact combinesWithA_of_exec (exec_andAN n s) (hand _)
  · exact combinesWithA_of_exec (exec_xorAR r s) (hxor _)
  · exact combinesWithA_of_exec (exec_xorAHL s) (hxor _)
  · exact combinesWithA_of_exec (exec_xorAN n s) (hxor _)
  · exact combinesWithA_of_exec (exec_orAR r s) (hor _)
  · exact combinesWithA_of_exec (exec_orAHL s) (hor _)
  · exact combinesWithA_of_exec (exec_orAN n s) (hor _)

/-- Rules R160, R161: the flags of a count up, by the number counted. -/
theorem inc_flags (s : State) (v : Byte) :
    (⟨(add8 v 1#8 false).value == 0#8, false, (add8 v 1#8 false).half, s.flags.c⟩ : Flags) =
      countFlags s (decide (v.toNat = 255)) false (decide (v.toNat % 16 = 15)) := by
  have hv := v.isLt
  have hz : ((add8 v 1#8 false).value == 0#8) = decide (v.toNat = 255) := by
    have hsum : (add8 v 1#8 false).value.toNat = (v.toNat + 1) % 256 := add8_value_toNat v 1#8 false
    rw [beq_zero_eq_decide, decide_eq_decide, hsum]
    omega
  have hh : (add8 v 1#8 false).half = decide (v.toNat % 16 = 15) := by
    rw [Bool.eq_iff_iff, add8_half_iff, decide_eq_true_iff, show (1#8).toNat = 1 from rfl,
      Bool.toNat_false]
    omega
  rw [hz, hh]
  rfl

/-- Rule R162: one down is 255 up. -/
theorem dec_value (v : Byte) : (sub8 v 1#8 false).value.toNat = (v.toNat + 255) % 256 := by
  have hdiff : ((sub8 v 1#8 false).value.toNat : Int) = ((v.toNat : Int) - 1 - 0) % 256 :=
    sub8_value_toNat v 1#8 false
  omega

/-- Rules R162, R163: the flags of a count down, by the number counted. -/
theorem dec_flags (s : State) (v : Byte) :
    (⟨(sub8 v 1#8 false).value == 0#8, true, (sub8 v 1#8 false).half, s.flags.c⟩ : Flags) =
      countFlags s (decide (v.toNat = 1)) true (decide (v.toNat % 16 = 0)) := by
  have hv := v.isLt
  have hz : ((sub8 v 1#8 false).value == 0#8) = decide (v.toNat = 1) := by
    rw [beq_zero_eq_decide, decide_eq_decide, dec_value]
    omega
  have hh : (sub8 v 1#8 false).half = decide (v.toNat % 16 = 0) := by
    rw [Bool.eq_iff_iff, sub8_half_iff, decide_eq_true_iff, show (1#8).toNat = 1 from rfl,
      Bool.toNat_false]
    omega
  rw [hz, hh]
  rfl

/-- Settles O12: a register and the byte at HL take the same count. -/
theorem incrementAndDecrementOneByte : Obligations.IncrementAndDecrementOneByte := by
  unfold Obligations.IncrementAndDecrementOneByte
  refine fun s r => ⟨?_, ?_, ?_, ?_⟩
  · exact changesReg_of_exec (exec_incR r s) (add8_value_toNat ..) (inc_flags ..)
  · exact changesHlByte_of_exec (exec_incHL s) (add8_value_toNat ..) (inc_flags ..)
  · exact changesReg_of_exec (exec_decR r s) (dec_value _) (dec_flags ..)
  · exact changesHlByte_of_exec (exec_decHL s) (dec_value _) (dec_flags ..)

end Sys2Proof.Machine

namespace Sys2Proof.Machine

/-! ## 16-bit transfers (rules R181 to R186) -/

/-- Rule R186: the two stores of a word lie at different addresses, wherever they wrap. -/
theorem ne_add_one (a : Addr) : a ≠ a + 1#16 := by bv_omega

/-- Rules R63, R66: a word stored puts its low byte at the address. -/
theorem State.readByte_writeWord_low (s : State) (a : Addr) (v : Word) :
    (s.writeWord a v).readByte a = loByte v := by
  rw [State.readByte_writeWord, if_neg (ne_add_one a), if_pos rfl]

/-- Rules R63, R66: a word stored puts its high byte at the next address. -/
theorem State.readByte_writeWord_high (s : State) (a : Addr) (v : Word) :
    (s.writeWord a v).readByte (a + 1#16) = hiByte v := by
  rw [State.readByte_writeWord, if_pos rfl]

/-- Rules R61, R66: a word stored changes no third byte. -/
theorem State.writeWord_keepsBytes (s : State) (a : Addr) (v : Word) :
    KeepsBytes [a, a + 1#16] s (s.writeWord a v) := by
  intro x hx
  obtain ⟨hlow, hhigh⟩ : x ≠ a ∧ x ≠ a + 1#16 := by simpa using hx
  rw [State.readByte_writeWord, if_neg hhigh, if_neg hlow]

/-- Settles O13: two forms write one pair, the third stores one word. -/
theorem sixteenBitTransfers : Obligations.SixteenBitTransfers := by
  unfold Obligations.SixteenBitTransfers
  refine fun s p nn => ⟨?pair, ?sp, _, exec_ldNNSP nn s, ?low, ?high, s.writeWord_keepsBytes nn s.sp,
    fun _ _ => rfl, rfl, rfl, rfl, rfl, rfl, rfl, rfl, rfl, rfl, rfl, rfl, rfl⟩
  case pair => exact changesPair_of_exec (by rw [State.setPair_setFlags_self, exec_ldPairNN])
  case sp => exact changesPair_of_exec (p := .sp) (exec_ldSPHL s)
  case low => rw [State.charge_readByte, State.readByte_writeWord_low, loByte_toNat]
  case high => rw [State.charge_readByte, State.readByte_writeWord_high, hiByte_toNat]

/-- Rules R12, R63: the address after `a`, as a number. -/
theorem ofNat_succ_mod (a : Addr) : BitVec.ofNat 16 ((a.toNat + 1) % 65536) = a + 1#16 := by bv_omega

/-- Settles O29: a word load by the value of a join, a word store by its two bytes and its frame. -/
theorem wordAccessIsTwoBytes : Obligations.WordAccessIsTwoBytes := by
  unfold Obligations.WordAccessIsTwoBytes
  intro s a v
  rw [ofNat_succ_mod]
  refine ⟨join_toNat .., ?low, ?high, s.writeWord_keepsBytes a v, ?roundTrip⟩
  case low => rw [State.readByte_writeWord_low, loByte_toNat]
  case high => rw [State.readByte_writeWord_high, hiByte_toNat]
  case roundTrip =>
    rw [State.readWord, State.readByte_writeWord_low, State.readByte_writeWord_high,
      join_hiByte_loByte]

/-! ## The stack (rules R180, R183, R184, R240 to R245) -/

/-- Rules R183, R240, R245: an instruction that pushes a word and goes somewhere. -/
theorem pushesAndGoes_of_exec {i : Instr} {s : State} {v target : Word} {n : Nat}
    (h : exec i s = .next (((s.push16 v).setPc target).charge n)) : PushesAndGoes i s v target n :=
  ⟨_, h, s.readByte_push16_high v, s.readByte_push16_low v, s.push16_keepsBytes v, rfl, rfl,
    fun _ _ => rfl, rfl, rfl, rfl, rfl, rfl, rfl, rfl, rfl, rfl, rfl⟩

/-- Settles O14: PUSH goes on where it was. -/
theorem pushStoresThePair : Obligations.PushStoresThePair := by
  unfold Obligations.PushStoresThePair
  exact fun s q => pushesAndGoes_of_exec (exec_push q s)

/-- Rule R184: what a popped pair takes, by the pair. -/
theorem State.setRegs_join (s : State) {hi lo : Reg8} (h : hi ≠ lo) (x y : Byte) :
    (s.setRegs hi lo (join x y)).reg hi = x ∧ (s.setRegs hi lo (join x y)).reg lo = y ∧
      KeepsRegs [hi, lo] s (s.setRegs hi lo (join x y)) := by
  refine ⟨?_, ?_, fun r hr => ?_⟩
  · rw [State.setRegs_reg, if_neg h, if_pos rfl, hiByte_join]
  · rw [State.setRegs_reg, if_pos rfl, loByte_join]
  · obtain ⟨hhi, hlo⟩ : r ≠ hi ∧ r ≠ lo := by simpa using hr
    rw [State.setRegs_reg, if_neg hlo, if_neg hhi]

/-- Settles O15: the pair takes the two bytes; SP moves whichever pair it is. -/
theorem popLoadsThePair : Obligations.PopLoadsThePair := by
  unfold Obligations.PopLoadsThePair
  intro s q
  refine ⟨_, exec_pop q s, ?sp, ?pair, fun _ _ => ?bytes, ?pc, ?cyc, ?control⟩
  case sp => simp
  case pair =>
    cases q with
    | bc =>
      obtain ⟨hhi, hlo, hkeeps⟩ := s.popSp.setRegs_join (hi := .b) (lo := .c) (by decide) _ _
      exact ⟨hhi, hlo, hkeeps, rfl⟩
    | de =>
      obtain ⟨hhi, hlo, hkeeps⟩ := s.popSp.setRegs_join (hi := .d) (lo := .e) (by decide) _ _
      exact ⟨hhi, hlo, hkeeps, rfl⟩
    | hl =>
      obtain ⟨hhi, hlo, hkeeps⟩ := s.popSp.setRegs_join (hi := .h) (lo := .l) (by decide) _ _
      exact ⟨hhi, hlo, hkeeps, rfl⟩
    | af =>
      refine ⟨?_, fun r hr => ?_, ?_⟩
      · exact hiByte_join ..
      · have hne : r ≠ .a := by simpa using hr
        simp [State.setStackPair, hne]
      · show Flags.ofByte (loByte s.popValue) = _
        rw [State.popValue, loByte_join]
        rfl
  case bytes => simp
  case pc => simp
  case cyc => simp [Charges]
  case control => simp [KeepsControl, KeepsHidden]

/-! ## Rotates and shifts (rules R200 to R214) -/

/-- Rule R200: `rlc` as a number. -/
theorem rlc_eq (v : Byte) : (rlc v).value.toNat = v.toNat * 2 % 256 + v.toNat / 128 ∧
    (rlc v).out = decide (v.toNat ≥ 128) := by revert v; decide

theorem rrc_eq (v : Byte) : (rrc v).value.toNat = v.toNat / 2 + v.toNat % 2 * 128 ∧
    (rrc v).out = decide (v.toNat % 2 = 1) := by revert v; decide

theorem rl_eq (v : Byte) (cin : Bool) : (rl v cin).value.toNat = v.toNat * 2 % 256 + cin.toNat ∧
    (rl v cin).out = decide (v.toNat ≥ 128) := by revert v cin; decide

theorem rr_eq (v : Byte) (cin : Bool) : (rr v cin).value.toNat = v.toNat / 2 + cin.toNat * 128 ∧
    (rr v cin).out = decide (v.toNat % 2 = 1) := by revert v cin; decide

theorem sla_eq (v : Byte) : (sla v).value.toNat = v.toNat * 2 % 256 ∧
    (sla v).out = decide (v.toNat ≥ 128) := by revert v; decide

theorem sra_eq (v : Byte) : (sra v).value.toNat = v.toNat / 2 + v.toNat / 128 * 128 ∧
    (sra v).out = decide (v.toNat % 2 = 1) := by revert v; decide

theorem swap_eq (v : Byte) : (swap v).value.toNat = v.toNat % 16 * 16 + v.toNat / 16 ∧
    (swap v).out = false := by revert v; decide

theorem srl_eq (v : Byte) : (srl v).value.toNat = v.toNat / 2 ∧
    (srl v).out = decide (v.toNat % 2 = 1) := by revert v; decide

/-- Rules R201 to R204, R213: an accumulator form, by the number of its result. -/
theorem changesReg_of_rotateA {i : Instr} {s : State} {f : Byte → ShiftResult} {w n : Nat}
    {out : Bool} (h : exec i s = .next ((s.rotateA f).charge n))
    (hf : (f (s.reg .a)).value.toNat = w ∧ (f (s.reg .a)).out = out) :
    ChangesReg i s .a w { z := false, n := false, h := false, c := out } n := by
  obtain ⟨hvalue, hout⟩ := hf
  exact changesReg_of_exec h hvalue (by rw [hout])

/-- Settles O17: the four forms, each by the number of its rotate. -/
theorem accumulatorRotates : Obligations.AccumulatorRotates := by
  unfold Obligations.AccumulatorRotates
  exact fun s => ⟨changesReg_of_rotateA (exec_rlca s) (rlc_eq _),
    changesReg_of_rotateA (exec_rrca s) (rrc_eq _), changesReg_of_rotateA (exec_rla s) (rl_eq ..),
    changesReg_of_rotateA (exec_rra s) (rr_eq ..)⟩

/-- Rules R205 to R212: the flags of a secondary-table form, by the number of its result. -/
theorem shift_flags {r : ShiftResult} {w : Nat} {out : Bool} (h : r.value.toNat = w ∧ r.out = out) :
    (⟨r.value == 0#8, false, false, r.out⟩ : Flags) = shiftFlags w out := by
  obtain ⟨rfl, rfl⟩ := h
  rw [beq_zero_eq_decide]
  rfl

/-- Rules R205 to R214: a secondary-table form on a register. -/
theorem changesReg_of_shiftSlot {i : Instr} {s : State} {r : Reg8} {f : Byte → ShiftResult}
    {w n : Nat} {out : Bool} (h : exec i s = .next ((s.shiftSlot (.reg r) f).charge n))
    (hf : (f (s.reg r)).value.toNat = w ∧ (f (s.reg r)).out = out) :
    ChangesReg i s r w (shiftFlags w out) n :=
  changesReg_of_exec h hf.left (shift_flags hf)

/-- Rules R205 to R214: a secondary-table form on the byte at HL. -/
theorem changesHlByte_of_shiftSlot {i : Instr} {s : State} {f : Byte → ShiftResult} {w n : Nat}
    {out : Bool} (h : exec i s = .next ((s.shiftSlot .hl f).charge n))
    (hf : (f (s.readByte s.hl)).value.toNat = w ∧ (f (s.readByte s.hl)).out = out) :
    ChangesHlByte i s w (shiftFlags w out) n :=
  changesHlByte_of_exec h hf.left (shift_flags hf)

/-- Settles O18: the eight forms on a register, each by the number of its shift. -/
theorem shiftsOfARegister : Obligations.ShiftsOfARegister := by
  unfold Obligations.ShiftsOfARegister
  exact fun s r =>
    ⟨changesReg_of_shiftSlot (exec_rlcR r s) (rlc_eq _), changesReg_of_shiftSlot (exec_rrcR r s) (rrc_eq _),
      changesReg_of_shiftSlot (exec_rlR r s) (rl_eq ..), changesReg_of_shiftSlot (exec_rrR r s) (rr_eq ..),
      changesReg_of_shiftSlot (exec_slaR r s) (sla_eq _), changesReg_of_shiftSlot (exec_sraR r s) (sra_eq _),
      changesReg_of_shiftSlot (exec_swapR r s) (swap_eq _),
      changesReg_of_shiftSlot (exec_srlR r s) (srl_eq _)⟩

/-- Settles O19: the eight forms on the byte at HL, each by the number of its shift. -/
theorem shiftsOfTheByteAtHl : Obligations.ShiftsOfTheByteAtHl := by
  unfold Obligations.ShiftsOfTheByteAtHl
  exact fun s =>
    ⟨changesHlByte_of_shiftSlot (exec_rlcHL s) (rlc_eq _), changesHlByte_of_shiftSlot (exec_rrcHL s) (rrc_eq _),
      changesHlByte_of_shiftSlot (exec_rlHL s) (rl_eq ..), changesHlByte_of_shiftSlot (exec_rrHL s) (rr_eq ..),
      changesHlByte_of_shiftSlot (exec_slaHL s) (sla_eq _), changesHlByte_of_shiftSlot (exec_sraHL s) (sra_eq _),
      changesHlByte_of_shiftSlot (exec_swapHL s) (swap_eq _),
      changesHlByte_of_shiftSlot (exec_srlHL s) (srl_eq _)⟩

/-! ## Bits (rules R220 to R222) -/

/-- Rule R220: a bit of a byte, as a digit of its number. -/
theorem getLsbD_toNat (v : Byte) (k : Nat) : (v.getLsbD k).toNat = v.toNat / 2 ^ k % 2 := by
  rw [BitVec.getLsbD, Nat.toNat_testBit]

/-- A mask splits a byte into the bits it leaves and the bits it takes. -/
theorem toNat_eq_of_mask (v m : Byte) : v.toNat = (v &&& ~~~m).toNat + (v &&& m).toNat := by
  have hdisjoint : (v &&& ~~~m) &&& (v &&& m) = 0#8 := by
    ext j hj
    cases v[j] <;> simp_all
  have hunion : (v &&& ~~~m) ||| (v &&& m) = v := by
    ext j hj
    cases hm : m[j] <;> simp [hm]
  rw [← BitVec.toNat_add_of_and_eq_zero hdisjoint, BitVec.add_eq_or_of_and_eq_zero _ _ hdisjoint,
    hunion]

/-- A mask added by OR is added to the bits it leaves. -/
theorem or_toNat_of_mask (v m : Byte) : (v ||| m).toNat = (v &&& ~~~m).toNat + m.toNat := by
  have hdisjoint : (v &&& ~~~m) &&& m = 0#8 := by
    ext j hj
    simp
  have hunion : (v &&& ~~~m) ||| m = v ||| m := by
    ext j hj
    cases hm : m[j] <;> simp [hm]
  rw [← BitVec.toNat_add_of_and_eq_zero hdisjoint, BitVec.add_eq_or_of_and_eq_zero _ _ hdisjoint,
    hunion]

/-- The mask of one bit takes that bit. -/
theorem and_bitMask_toNat (v : Byte) {k : Nat} (hk : k < 8) :
    (v &&& (1#8 <<< k)).toNat = v.toNat / 2 ^ k % 2 * 2 ^ k := by
  rw [← getLsbD_toNat, ← BitVec.twoPow_eq, BitVec.and_twoPow]
  cases v.getLsbD k with
  | false => simp
  | true => simp [BitVec.toNat_twoPow_of_lt hk]

/-- Rule R221: clearing a bit subtracts it if it was set. -/
theorem clearBit_toNat (v : Byte) {k : Nat} (hk : k < 8) :
    (v &&& (255#8 - (1#8 <<< k))).toNat = v.toNat - v.toNat / 2 ^ k % 2 * 2 ^ k := by
  have hmask : 255#8 - (1#8 <<< k) = ~~~(1#8 <<< k) := by bv_omega
  have hsplit := toNat_eq_of_mask v (1#8 <<< k)
  rw [and_bitMask_toNat v hk] at hsplit
  rw [hmask]
  omega

/-- Rule R222: setting a bit adds it if it was clear. -/
theorem setBit_toNat (v : Byte) {k : Nat} (hk : k < 8) :
    (v ||| (1#8 <<< k)).toNat = v.toNat + (1 - v.toNat / 2 ^ k % 2) * 2 ^ k := by
  have hsplit := toNat_eq_of_mask v (1#8 <<< k)
  have hmask : (1#8 <<< k).toNat = 2 ^ k := by
    rw [← BitVec.twoPow_eq, BitVec.toNat_twoPow_of_lt hk]
  rw [and_bitMask_toNat v hk] at hsplit
  rw [or_toNat_of_mask, hmask]
  obtain hbit | hbit := Nat.mod_two_eq_zero_or_one (v.toNat / 2 ^ k)
  all_goals
    rw [hbit] at hsplit ⊢
    omega

/-- Rule R220: the flags of BIT, by the digit of the location's number. -/
theorem bitTest_flags (s : State) (v : Byte) (k : Nat) :
    (⟨!v.getLsbD k, false, true, s.flags.c⟩ : Flags) =
      { z := decide (v.toNat / 2 ^ k % 2 = 0), n := false, h := true, c := s.flags.c } := by
  rw [← getLsbD_toNat]
  cases v.getLsbD k <;> rfl

/-- Settles O20: BIT writes flags by the digit it tests, RES and SET subtract or add it. -/
theorem bitInstructions : Obligations.BitInstructions := by
  unfold Obligations.BitInstructions
  intro s b r
  have hb : b.toNat < 8 := b.isLt
  refine ⟨?_, ?_, ?_, ?_, ?_, ?_⟩
  · exact changesFlags_of_exec (exec_bitR b r s) (bitTest_flags ..)
  · exact changesFlags_of_exec (exec_bitHL b s) (bitTest_flags ..)
  · exact changesReg_of_exec (f := s.flags) (exec_resR b r s) (clearBit_toNat _ hb) rfl
  · exact changesHlByte_of_exec (f := s.flags) (exec_resHL b s) (clearBit_toNat _ hb) rfl
  · exact changesReg_of_exec (f := s.flags) (exec_setR b r s) (setBit_toNat _ hb) rfl
  · exact changesHlByte_of_exec (f := s.flags) (exec_setHL b s) (setBit_toNat _ hb) rfl

/-! ## Control flow (rules R230 to R245) -/

/-- Rule R230: the test of a condition, as a proposition. -/
theorem Flags.holds_iff (f : Flags) (cc : Cond) : f.holds cc = true ↔ CondHolds cc f := by
  cases cc with
  | nz | nc => exact Iff.of_eq (Bool.not_eq_true' _)
  | z | c => exact Iff.rfl

/-- Rules R231 to R235: an instruction that writes PC alone. -/
theorem jumpsTo_of_exec {i : Instr} {s : State} {v : Word} {target : Int} {n : Nat}
    (h : exec i s = .next ((s.setPc v).charge n)) (hv : (v.toNat : Int) = target) :
    JumpsTo i s target n :=
  ⟨_, h, hv, fun _ _ => rfl, rfl, fun _ _ => rfl, rfl, rfl, rfl, rfl, rfl, rfl, rfl, rfl, rfl, rfl⟩

/-- Rules R233, R234: a relative target. -/
theorem relative_toNat (pc : Word) (e : Byte) :
    ((pc + sext16 e).toNat : Int) = ((pc.toNat : Int) + signedOffset e) % 65536 := by
  have hsext := sext16_toNat_emod e
  rw [BitVec.toNat_add]
  omega

/-- A conditional instruction whose condition holds. -/
theorem exec_taken {cc : Cond} {s : State} {x y : Host.Outcome State Fault Refusal}
    (h : CondHolds cc s.flags) : (if s.flags.holds cc then x else y) = x :=
  if_pos ((Flags.holds_iff ..).mpr h)

/-- A conditional instruction whose condition does not hold. -/
theorem exec_notTaken {cc : Cond} {s : State} {x y : Host.Outcome State Fault Refusal}
    (h : ¬ CondHolds cc s.flags) : (if s.flags.holds cc then x else y) = y :=
  if_neg fun hcc => h ((Flags.holds_iff ..).mp hcc)

/-- Settles O21: a jump taken writes its target to PC, one not taken the PC that stood there. -/
theorem jumpsSetPcOnly : Obligations.JumpsSetPcOnly := by
  unfold Obligations.JumpsSetPcOnly
  refine fun s cc nn e => ⟨?nn, ?hl, ?relative, fun h => ⟨?ccTaken, ?jrTaken⟩, fun h => ⟨?cc, ?jr⟩⟩
  case nn => exact jumpsTo_of_exec (exec_jpNN nn s) rfl
  case hl =>
    refine jumpsTo_of_exec (exec_jpHL s) ?_
    rw [State.hl, join_toNat]
    rfl
  case relative => exact jumpsTo_of_exec (exec_jrE e s) (relative_toNat ..)
  case ccTaken => exact jumpsTo_of_exec ((exec_jpCC cc nn s).trans (exec_taken h)) rfl
  case jrTaken =>
    exact jumpsTo_of_exec ((exec_jrCC cc e s).trans (exec_taken h)) (relative_toNat ..)
  case cc => exact jumpsTo_of_exec (v := s.pc) ((exec_jpCC cc nn s).trans (exec_notTaken h)) rfl
  case jr => exact jumpsTo_of_exec (v := s.pc) ((exec_jrCC cc e s).trans (exec_notTaken h)) rfl

/-- Rule R245: the restart targets. -/
theorem rst_target (t : BitVec 3) : t.zeroExtend 16 <<< 3 = BitVec.ofNat 16 (8 * t.toNat) := by
  revert t; decide

/-- Settles O22: a call or restart pushes the PC that stood there, a call not taken keeps it. -/
theorem callsPushTheReturnAddress : Obligations.CallsPushTheReturnAddress := by
  unfold Obligations.CallsPushTheReturnAddress
  refine fun s cc nn t => ⟨?call, ?rst, fun h => ?taken, fun h => ?notTaken⟩
  case call => exact pushesAndGoes_of_exec (exec_callNN nn s)
  case rst =>
    rw [← rst_target]
    exact pushesAndGoes_of_exec (exec_rst t s)
  case taken => exact pushesAndGoes_of_exec ((exec_callCC cc nn s).trans (exec_taken h))
  case notTaken =>
    exact jumpsTo_of_exec (v := s.pc) ((exec_callCC cc nn s).trans (exec_notTaken h)) rfl

/-- Rules R242 to R244: an instruction that takes PC from the stack and writes IME. -/
theorem popsPc_of_exec {i : Instr} {s : State} {ime : Bool} {n : Nat}
    (h : exec i s = .next ((s.returnPc.setIme ime).charge n)) : PopsPc i s ime n :=
  ⟨_, h, join_toNat .., rfl, rfl, rfl, rfl, fun _ _ => rfl, rfl, fun _ _ => rfl, rfl, rfl, rfl, rfl,
    rfl, rfl⟩

/-- Settles O23: RETI writes IME, the other returns leave it. -/
theorem returnsPopPc : Obligations.ReturnsPopPc := by
  unfold Obligations.ReturnsPopPc
  refine fun s cc => ⟨?ret, ?reti, fun h => ?taken, fun h => ?notTaken⟩
  case ret => exact popsPc_of_exec (exec_ret s)
  case reti => exact popsPc_of_exec (exec_reti s)
  case taken => exact popsPc_of_exec ((exec_retCC cc s).trans (exec_taken h))
  case notTaken => exact jumpsTo_of_exec (v := s.pc) ((exec_retCC cc s).trans (exec_notTaken h)) rfl

end Sys2Proof.Machine

namespace Sys2Proof.Machine

/-! ## Miscellaneous control (rules R250 to R260) -/

/-- Settles O24: each instruction ends by writing its one bit. -/
theorem controlInstructionsSetOneBit : Obligations.ControlInstructionsSetOneBit := by
  unfold Obligations.ControlInstructionsSetOneBit
  intro s
  simp only [List.forall_mem_cons, List.not_mem_nil, IsEmpty.forall_iff, implies_true, and_true]
  refine ⟨⟨_, exec_nop s, ?_⟩, ⟨_, exec_halt s, ?_⟩, ⟨_, exec_di s, ?_⟩, ⟨_, exec_ei s, ?_⟩⟩
  all_goals
    exact ⟨rfl, fun _ _ => rfl, rfl, fun _ _ => rfl, rfl, rfl, rfl, rfl, rfl, rfl, rfl, rfl⟩

/-- Rule R260: an instruction that ends by a report. -/
theorem onlyReports_of_exec {i : Instr} {s : State} {op : Byte}
    (h : exec i s = .next ((s.report op).charge 0)) :
    ∃ t, exec i s = .next t ∧ t.reports = ⟨op, s.pc - 1#16⟩ :: s.reports ∧
      KeepsRegs [] s t ∧ t.flags = s.flags ∧ KeepsBytes [] s t ∧ t.sp = s.sp ∧ t.pc = s.pc ∧
      Charges 0 s t ∧ t.ime = s.ime ∧ t.dip = s.dip ∧ t.halt = s.halt ∧ t.divAcc = s.divAcc ∧
      t.timaAcc = s.timaAcc ∧ t.ovf = s.ovf ∧ t.extIrq = s.extIrq :=
  ⟨_, h, rfl, fun _ _ => rfl, rfl, fun _ _ => rfl, rfl, rfl, rfl, rfl, rfl, rfl, rfl, rfl, rfl, rfl⟩

/-- Settles O27: each of the eleven is its own encoding and ends by a report of itself. -/
theorem unmatchedOpcodesOnlyReport : Obligations.UnmatchedOpcodesOnlyReport := by
  unfold Obligations.UnmatchedOpcodesOnlyReport
  intro s
  simp only [List.forall_mem_cons, List.not_mem_nil, IsEmpty.forall_iff, implies_true, and_true]
  exact ⟨⟨rfl, onlyReports_of_exec (exec_unimplD3 s)⟩, ⟨rfl, onlyReports_of_exec (exec_unimplDB s)⟩,
    ⟨rfl, onlyReports_of_exec (exec_unimplDD s)⟩, ⟨rfl, onlyReports_of_exec (exec_unimplE3 s)⟩,
    ⟨rfl, onlyReports_of_exec (exec_unimplE4 s)⟩, ⟨rfl, onlyReports_of_exec (exec_unimplEB s)⟩,
    ⟨rfl, onlyReports_of_exec (exec_unimplEC s)⟩, ⟨rfl, onlyReports_of_exec (exec_unimplED s)⟩,
    ⟨rfl, onlyReports_of_exec (exec_unimplF4 s)⟩, ⟨rfl, onlyReports_of_exec (exec_unimplFC s)⟩,
    ⟨rfl, onlyReports_of_exec (exec_unimplFD s)⟩⟩

/-! ### DAA (rule R255) -/

theorem daaLow_iff (a : Byte) (f : Flags) :
    daaLow a f = true ↔ f.h = true ∨ (f.n = false ∧ a.toNat % 16 > 9) := by
  simp [daaLow]

theorem daaHigh_iff (a : Byte) (f : Flags) :
    daaHigh a f = true ↔ f.c = true ∨ (f.n = false ∧ a.toNat > 0x99) := by
  simp [daaHigh]

/-- What DAA adds or subtracts, by its two tests. -/
def daaAdjust (low high : Bool) : Nat := (if low then 6 else 0) + (if high then 0x60 else 0)

/-- Rule R255: DAA's result after an addition. -/
theorem daaValue_toNat_of_add (a : Byte) {f : Flags} (h : f.n = false) :
    (daaValue a f).toNat = (a.toNat + daaAdjust (daaLow a f) (daaHigh a f)) % 256 := by
  simp only [daaValue, h, Bool.false_eq_true, if_false, BitVec.toNat_add]
  cases daaLow a f <;> cases daaHigh a f <;> rfl

/-- Rule R255: DAA's result after a subtraction. -/
theorem daaValue_toNat_of_sub (a : Byte) {f : Flags} (h : f.n = true) :
    (daaValue a f).toNat = (a.toNat + 256 - daaAdjust (daaLow a f) (daaHigh a f)) % 256 := by
  simp only [daaValue, h, if_true, BitVec.toNat_sub]
  cases daaLow a f <;> cases daaHigh a f <;> simp [daaAdjust] <;> omega

/-- Rule R255: DAA's result, after either. -/
theorem daaValue_toNat (a : Byte) (f : Flags) : (daaValue a f).toNat =
    ((if f.n then (a.toNat : Int) - daaAdjust (daaLow a f) (daaHigh a f)
      else a.toNat + daaAdjust (daaLow a f) (daaHigh a f)) % 256).toNat := by
  have hle : daaAdjust (daaLow a f) (daaHigh a f) ≤ 102 := by
    cases daaLow a f <;> cases daaHigh a f <;> decide
  cases hn : f.n with
  | false =>
    rw [daaValue_toNat_of_add a hn, if_neg (by decide)]
    omega
  | true =>
    rw [daaValue_toNat_of_sub a hn, if_pos rfl]
    omega

/-- Rule R255: the adjustment, in the terms of the two tests. -/
theorem daaAdjust_cast (a : Byte) (f : Flags) : (daaAdjust (daaLow a f) (daaHigh a f) : Int) =
    (if f.h = true ∨ (f.n = false ∧ a.toNat % 16 > 9) then 6 else 0) +
      (if f.c = true ∨ (f.n = false ∧ a.toNat > 0x99) then 0x60 else 0) := by
  simp only [daaAdjust, daaLow_iff, daaHigh_iff]
  push_cast
  rfl

/-- Settles O25: DAA by its two tests, the others by one write each. -/
theorem accumulatorAndCarryAdjustments : Obligations.AccumulatorAndCarryAdjustments := by
  unfold Obligations.AccumulatorAndCarryAdjustments
  intro s
  refine ⟨?daa, ?cpl, changesFlags_of_exec (exec_scf s) rfl, changesFlags_of_exec (exec_ccf s) rfl⟩
  case daa =>
    have hvalue := daaValue_toNat (s.reg .a) s.flags
    rw [daaAdjust_cast] at hvalue
    refine changesReg_of_exec (exec_daa s) hvalue ?_
    congr 1
    · rw [beq_zero_eq_decide, hvalue]
    · rw [Bool.eq_iff_iff, daaHigh_iff, decide_eq_true_iff]
  case cpl =>
    refine changesReg_of_exec (exec_cpl s) ?_ rfl
    have hnot : s.reg .a ^^^ 0xFF#8 = ~~~s.reg .a := BitVec.xor_allOnes
    rw [hnot, BitVec.toNat_not]

/-! ### Packed decimal -/

/-- DAA after a sum of packed operands: the decimal sum. -/
theorem daa_add8 {a v : Byte} (cin : Bool) (ha : isPacked a) (hv : isPacked v) {f : Flags}
    (hn : f.n = false) (hh : f.h = (add8 a v cin).half) (hc : f.c = (add8 a v cin).carry) :
    isPacked (daaValue (add8 a v cin).value f) ∧
      packed (daaValue (add8 a v cin).value f) + 100 * (daaHigh (add8 a v cin).value f).toNat =
        packed a + packed v + cin.toNat := by
  obtain ⟨ha1, ha0⟩ := ha
  obtain ⟨hv1, hv0⟩ := hv
  have hk : cin.toNat ≤ 1 := Bool.toNat_le cin
  have hsum := add8_value_toNat a v cin
  have hvalue := daaValue_toNat_of_add (add8 a v cin).value hn
  have hlow := daaLow_iff (add8 a v cin).value f
  have hhigh := daaHigh_iff (add8 a v cin).value f
  rw [hn, hh, add8_half_iff] at hlow
  rw [hn, hc, add8_carry_iff] at hhigh
  unfold isPacked packed
  cases hl : daaLow (add8 a v cin).value f <;> cases hg : daaHigh (add8 a v cin).value f
  all_goals
    simp [hl, hg, daaAdjust] at *
    omega

/-- DAA after a difference of packed operands: the decimal difference. -/
theorem daa_sub8 {a v : Byte} (cin : Bool) (ha : isPacked a) (hv : isPacked v) {f : Flags}
    (hn : f.n = true) (hh : f.h = (sub8 a v cin).half) (hc : f.c = (sub8 a v cin).carry) :
    isPacked (daaValue (sub8 a v cin).value f) ∧
      packed (daaValue (sub8 a v cin).value f) + packed v + cin.toNat =
        packed a + 100 * (daaHigh (sub8 a v cin).value f).toNat := by
  obtain ⟨ha1, ha0⟩ := ha
  obtain ⟨hv1, hv0⟩ := hv
  have hk : cin.toNat ≤ 1 := Bool.toNat_le cin
  have hdiff := sub8_value_toNat a v cin
  have hvalue := daaValue_toNat_of_sub (sub8 a v cin).value hn
  have hlow := daaLow_iff (sub8 a v cin).value f
  have hhigh := daaHigh_iff (sub8 a v cin).value f
  rw [hn, hh, sub8_half_iff] at hlow
  rw [hn, hc, sub8_carry_iff] at hhigh
  unfold isPacked packed
  cases hl : daaLow (sub8 a v cin).value f <;> cases hg : daaHigh (sub8 a v cin).value f
  all_goals
    simp [hl, hg, daaAdjust] at *
    omega

/-- Settles O26: the half-carry and Carry that ADC or SBC leaves tell DAA which digits to correct. -/
theorem daaCorrectsPackedDecimal : Obligations.DaaCorrectsPackedDecimal := by
  unfold Obligations.DaaCorrectsPackedDecimal
  intro s v ha hv
  obtain ⟨hadd, haddSum⟩ := daa_add8 (f := (s.adcA v).flags) s.flags.c ha hv rfl rfl rfl
  obtain ⟨hsub, hsubSum⟩ := daa_sub8 (f := (s.sbcA v).flags) s.flags.c ha hv rfl rfl rfl
  exact ⟨⟨_, _, exec_adcAN v s, exec_daa _, hadd, haddSum⟩,
    ⟨_, _, exec_sbcAN v s, exec_daa _, hsub, hsubSum⟩⟩

/-! ## ADC and SBC in two steps (rule R151) -/

/-- The byte that stands for a carry. -/
theorem ite_one_zero_toNat (cin : Bool) : (if cin then 1#8 else 0#8 : Byte).toNat = cin.toNat := by
  cases cin <;> rfl

/-- Two results of the adder are equal if they are as numbers and as conditions. -/
theorem AddResult.ext_iff_toNat {x : AddResult 8} {v : Byte} {h c : Bool}
    (hv : x.value.toNat = v.toNat) (hh : x.half = true ↔ h = true) (hc : x.carry = true ↔ c = true) :
    x = ⟨v, h, c⟩ := by
  obtain ⟨xv, xh, xc⟩ := x
  rw [AddResult.mk.injEq]
  exact ⟨BitVec.eq_of_toNat_eq hv, Bool.eq_iff_iff.mpr hh, Bool.eq_iff_iff.mpr hc⟩

/-- Settles O33: the carry added is at most 1, so the two steps together carry exactly when the one
operation does. -/
theorem twoStepCarryFormsAgree : Obligations.TwoStepCarryFormsAgree := by
  unfold Obligations.TwoStepCarryFormsAgree
  intro a v cin
  have hk := ite_one_zero_toNat cin
  have hle : cin.toNat ≤ 1 := Bool.toNat_le cin
  generalize (if cin then 1#8 else 0#8 : Byte) = k at hk
  have ha := a.isLt
  have hv := v.isLt
  constructor
  · have ht := add8_value_toNat v k false
    rw [Bool.toNat_false] at ht
    refine AddResult.ext_iff_toNat ?value ?half ?carry
    case value =>
      simp only [add8_value_toNat, Bool.toNat_false]
      omega
    case half =>
      simp only [Bool.or_eq_true, add8_half_iff, ht, hk, Bool.toNat_false]
      omega
    case carry =>
      simp only [Bool.or_eq_true, add8_carry_iff, ht, hk, Bool.toNat_false]
      omega
  · have hu := sub8_value_toNat a v false
    have hq := sub8_value_toNat (sub8 a v false).value k false
    have hx := sub8_value_toNat a v cin
    rw [Bool.toNat_false] at hu hq
    refine AddResult.ext_iff_toNat ?_ ?_ ?_
    · omega
    · simp only [Bool.or_eq_true, sub8_half_iff, hk, Bool.toNat_false]
      omega
    · simp only [Bool.or_eq_true, sub8_carry_iff, hk, Bool.toNat_false]
      omega

/-! ## The pairs (rules R21, R22, R93) -/

/-- Rule R21: the byte F as a number. -/
theorem Flags.toByte_toNat (f : Flags) : f.toByte.toNat =
    f.z.toNat * 128 + f.n.toNat * 64 + f.h.toNat * 32 + f.c.toNat * 16 := by
  obtain ⟨z, n, h, c⟩ := f
  revert z n h c; decide

/-- Rule R21: F keeps bits 7 to 4 of a byte written to it. -/
theorem Flags.toByte_ofByte_toNat (v : Byte) : (Flags.ofByte v).toByte.toNat = v.toNat / 16 * 16 := by
  revert v; decide

/-- Rule R22: what the pair setters write. -/
theorem State.setRegs_toNat (s : State) {hi lo : Reg8} (h : hi ≠ lo) (v : Word) :
    ((s.setRegs hi lo v).reg hi).toNat = v.toNat / 256 ∧
      ((s.setRegs hi lo v).reg lo).toNat = v.toNat % 256 ∧ KeepsRegs [hi, lo] s (s.setRegs hi lo v) := by
  obtain ⟨hhi, hlo, hkeeps⟩ := s.setRegs_join h (hiByte v) (loByte v)
  rw [join_hiByte_loByte] at hhi hlo hkeeps
  exact ⟨by rw [hhi, hiByte_toNat], by rw [hlo, loByte_toNat], hkeeps⟩

/-- Settles O31: a view is the join of its two registers, a setter writes the two halves to them. -/
theorem pairsAreViewsOfTheRegisters : Obligations.PairsAreViewsOfTheRegisters := by
  unfold Obligations.PairsAreViewsOfTheRegisters
  intro s v
  have hbc : s.bc.toNat = _ := join_toNat (s.reg .b) (s.reg .c)
  have hde : s.de.toNat = _ := join_toNat (s.reg .d) (s.reg .e)
  have hhl : s.hl.toNat = _ := join_toNat (s.reg .h) (s.reg .l)
  refine ⟨⟨hbc, hde, hhl⟩, ?af, s.setRegs_toNat (by decide) v, s.setRegs_toNat (by decide) v,
    s.setRegs_toNat (by decide) v, ⟨?setAf, fun r hr => ?setAfRegs⟩, ⟨hbc, hde, hhl, rfl⟩,
    ⟨hbc, hde, hhl, rfl⟩, ⟨rfl, rfl, rfl, rfl⟩, ⟨rfl, rfl, rfl, rfl⟩⟩
  case af =>
    rw [State.af, join_toNat, Flags.toByte_toNat]
    omega
  case setAf =>
    rw [State.af, State.setAf_reg, if_pos rfl, State.setAf_flags, join_toNat,
      Flags.toByte_ofByte_toNat, hiByte_toNat, loByte_toNat]
    omega
  case setAfRegs =>
    have hne : r ≠ .a := by simpa using hr
    rw [State.setAf_reg, if_neg hne]

end Sys2Proof.Machine

namespace Sys2Proof.Machine

/-! ## What an instruction reads (rules R27 to R30, R42) -/

/-- Two states that show an instruction the same registers, flags, SP, PC and bytes of memory. -/
structure SameVisible (s s' : State) : Prop where
  reg : ∀ r, s'.reg r = s.reg r
  flags : s'.flags = s.flags
  sp : s'.sp = s.sp
  pc : s'.pc = s.pc
  byte : ∀ a, s'.readByte a = s.readByte a

theorem SameVisible.hl {s s' : State} (h : SameVisible s s') : s'.hl = s.hl := by
  simp [State.hl, h.reg]

theorem SameVisible.bc {s s' : State} (h : SameVisible s s') : s'.bc = s.bc := by
  simp [State.bc, h.reg]

theorem SameVisible.de {s s' : State} (h : SameVisible s s') : s'.de = s.de := by
  simp [State.de, h.reg]

theorem SameVisible.pair {s s' : State} (h : SameVisible s s') (p : Pair) : s'.pair p = s.pair p := by
  cases p <;> simp [State.pair, h.hl, h.bc, h.de, h.sp]

theorem SameVisible.stackPair {s s' : State} (h : SameVisible s s') (p : StackPair) :
    s'.stackPair p = s.stackPair p := by
  cases p <;> simp [State.stackPair, State.af, h.hl, h.bc, h.de, h.reg, h.flags]

theorem SameVisible.popValue {s s' : State} (h : SameVisible s s') : s'.popValue = s.popValue := by
  simp [State.popValue, h.byte, h.sp]

theorem SameVisible.slot {s s' : State} (h : SameVisible s s') (x : Slot) : s'.slot x = s.slot x := by
  cases x <;> simp [State.slot, h.reg, h.byte, h.hl]

/-- Both states end in the same visible state, at the same cost. -/
def SameEffect (i : Instr) (s s' t : State) : Prop :=
  ∃ t', exec i s' = .next t' ∧ SameVisible t t' ∧ ∃ n, Charges n s t ∧ Charges n s' t'

/-- The law for one end state of each. The five parts are the model's laws of the operation that the
instruction ends with, over what `h` says is read. -/
theorem exec_sameEffect {i : Instr} {s s' t : State} (h : SameVisible s s')
    (hi : i.wellFormed = true) (hx : exec i s = .next t) : SameEffect i s s' t := by
  cases i with
  | prefixCb op2 => cases hi
  | stop n => cases hx
  | jpCC cc _ | jrCC cc _ | callCC cc _ | retCC cc =>
    simp only [exec_jpCC, exec_jrCC, exec_callCC, exec_retCC, SameEffect, h.flags] at hx ⊢
    cases hcc : s.flags.holds cc
    all_goals
      rw [hcc] at hx
      cases hx
      refine ⟨_, rfl, ⟨?_, ?_, ?_, ?_, ?_⟩, ⟨_, rfl, rfl⟩⟩
    all_goals simp [h.reg, h.flags, h.sp, h.pc, h.byte, h.popValue, State.readByte_callTo]
  | ldPairNN p _ | incPair p | decPair p | pop p =>
    cases p
    all_goals
      cases hx
      refine ⟨_, rfl, ⟨?_, ?_, ?_, ?_, ?_⟩, ⟨_, rfl, rfl⟩⟩
    all_goals simp [State.setPair, State.setStackPair, h.reg, h.flags, h.sp, h.pc, h.byte, h.pair,
      h.popValue]
  | _ =>
    cases hx
    refine ⟨_, rfl, ⟨?_, ?_, ?_, ?_, ?_⟩, ⟨_, rfl, rfl⟩⟩
    all_goals simp [h.reg, h.flags, h.sp, h.pc, h.byte, h.hl, h.bc, h.de, h.pair, h.stackPair, h.slot,
      h.popValue, State.readByte_push16, State.readByte_callTo, State.readByte_writeWord]

/-- Settles O40: every instruction has the same effect on two states that look the same to it. -/
theorem instructionsReadNoHiddenState : Obligations.InstructionsReadNoHiddenState := by
  unfold Obligations.InstructionsReadNoHiddenState
  intro i s s' t hregs hflags hsp hpc hbytes hx
  have hsame : SameVisible s s' :=
    ⟨fun r => congrArg (Regs.get · r) hregs, hflags, hsp, hpc, hbytes⟩
  obtain ⟨t', ht', ⟨hreg, hflags', hsp', hpc', hbytes'⟩, n, hcyc, hcyc'⟩ :=
    exec_of_wellFormed (P := fun i s t => ∀ s', SameVisible s s' → SameEffect i s s' t)
      (fun hi hx s' h => exec_sameEffect h hi hx)
      (fun {op2 _ _} heffect s' h => by
        rw [SameEffect, exec_prefixCb]
        exact heffect s' h) hx s' hsame
  refine ⟨t', ht', Regs.ext_get hreg, hflags', hsp', hpc', hbytes', ?_⟩
  rw [hcyc, hcyc', BitVec.add_comm, BitVec.add_sub_cancel, BitVec.add_comm, BitVec.add_sub_cancel]

end Sys2Proof.Machine

namespace Sys2Proof.Machine

/-! ## What the rest of a tick leaves unchanged (rules R300, R305, R311) -/

@[simp] theorem haltedBeforeController_regs (s : State) :
    (haltedBeforeController s).regs = s.regs := State.timerUpdate_regs ..
@[simp] theorem haltedBeforeController_flags (s : State) :
    (haltedBeforeController s).flags = s.flags := State.timerUpdate_flags ..
@[simp] theorem haltedBeforeController_sp (s : State) :
    (haltedBeforeController s).sp = s.sp := State.timerUpdate_sp ..
@[simp] theorem haltedBeforeController_pc (s : State) :
    (haltedBeforeController s).pc = s.pc := State.timerUpdate_pc ..
@[simp] theorem haltedBeforeController_cyc (s : State) :
    (haltedBeforeController s).cyc = s.cyc + 4#64 := State.timerUpdate_cyc ..
@[simp] theorem haltedBeforeController_ime (s : State) :
    (haltedBeforeController s).ime = s.ime := State.timerUpdate_ime ..
@[simp] theorem haltedBeforeController_dip (s : State) :
    (haltedBeforeController s).dip = s.dip := State.timerUpdate_dip ..
@[simp] theorem haltedBeforeController_halt (s : State) :
    (haltedBeforeController s).halt = s.halt := State.timerUpdate_halt ..
@[simp] theorem haltedBeforeController_reports (s : State) :
    (haltedBeforeController s).reports = s.reports := State.timerUpdate_reports ..

@[simp] theorem executedBeforeController_flags (s u : State) :
    (executedBeforeController s u).flags = u.flags := by simp [executedBeforeController]
@[simp] theorem executedBeforeController_sp (s u : State) :
    (executedBeforeController s u).sp = u.sp := by simp [executedBeforeController]
@[simp] theorem executedBeforeController_pc (s u : State) :
    (executedBeforeController s u).pc = u.pc := by simp [executedBeforeController]
@[simp] theorem executedBeforeController_cyc (s u : State) :
    (executedBeforeController s u).cyc = u.cyc := by simp [executedBeforeController]

/-! ## The interrupt controller (rules R303 to R309) -/

/-- Rule R305: with IME 1 and a source pending, the controller services it. -/
theorem State.interruptController_of_some {s : State} {i : IrqSource} (hime : s.ime = true)
    (hi : firstPending s.pending = some i) : s.interruptController = s.service i := by
  obtain ⟨-, -, hno⟩ | ⟨-, -, -, hno⟩ | ⟨j, hj, -, hs⟩ := s.interruptController_cases
  · simp [hime, hi] at hno
  · simp [hime, hi] at hno
  · rwa [Option.some.inj (hi.symm.trans hj)]

/-- Rules R305, R307: otherwise it wakes a halted CORE if any bit is pending, and does nothing else. -/
theorem State.interruptController_of_none {s : State}
    (h : s.ime = false ∨ firstPending s.pending = none) :
    s.interruptController = s.setHalt (s.halt && s.pending == 0#8) := by
  obtain ⟨hs, hhalt, -⟩ | ⟨hs, hhalt, hpend, -⟩ | ⟨j, hj, hime, -⟩ := s.interruptController_cases
  · have hkeep : (s.halt && s.pending == 0#8) = s.halt := by
      obtain hhalt | hpend := hhalt
      · rw [hhalt, Bool.false_and]
      · rw [hpend, beq_self_eq_true, Bool.and_true]
    rw [hs, hkeep]
    rfl
  · rw [hs, hhalt, beq_false_of_ne hpend]
    rfl
  · simp [hime, hj] at h

/-- Step 6 of the tick: one source serviced, or only the wake. -/
theorem State.interruptController_serviced_or (s : State) :
    (∃ i, s.ime = true ∧ firstPending s.pending = some i ∧ s.interruptController = s.service i) ∨
    ((s.ime = false ∨ firstPending s.pending = none) ∧
      s.interruptController = s.setHalt (s.halt && s.pending == 0#8)) := by
  cases hime : s.ime with
  | false => exact .inr ⟨.inl rfl, State.interruptController_of_none (.inl hime)⟩
  | true =>
    cases hi : firstPending s.pending with
    | none => exact .inr ⟨.inr rfl, State.interruptController_of_none (.inr hi)⟩
    | some i => exact .inl ⟨i, rfl, rfl, State.interruptController_of_some hime hi⟩

/-- Rules R303, R306, R309: every bit below 5 has its source, with its handler. -/
theorem exists_source_of_bit {k : Nat} (hk : k < 5) :
    ∃ i : IrqSource, i.bit = k ∧ i.vector.toNat = 0x40 + 8 * k := by
  match k, hk with
  | 0, _ => exact ⟨.vblank, rfl, rfl⟩
  | 1, _ => exact ⟨.lcd, rfl, rfl⟩
  | 2, _ => exact ⟨.timer, rfl, rfl⟩
  | 3, _ => exact ⟨.serial, rfl, rfl⟩
  | 4, _ => exact ⟨.joypad, rfl, rfl⟩

/-- Rule R306: before a source in the order of priority stand lower bits only. -/
theorem irqPriority_split (i : IrqSource) :
    ∃ before after, irqPriority = before ++ i :: after ∧ ∀ j ∈ before, j.bit < i.bit := by
  cases i with
  | vblank => exact ⟨[], _, rfl, by decide⟩
  | lcd => exact ⟨[.vblank], _, rfl, by decide⟩
  | timer => exact ⟨[.vblank, .lcd], _, rfl, by decide⟩
  | serial => exact ⟨[.vblank, .lcd, .timer], _, rfl, by decide⟩
  | joypad => exact ⟨[.vblank, .lcd, .timer, .serial], _, rfl, by decide⟩

/-- Rules R305, R306: the source of the lowest bit set is the one serviced. -/
theorem firstPending_eq_some {pend : Byte} {i : IrqSource} (h : pend.getLsbD i.bit = true)
    (hlower : ∀ j < i.bit, pend.getLsbD j = false) : firstPending pend = some i := by
  obtain ⟨before, after, hsplit, hbefore⟩ := irqPriority_split i
  refine List.find?_eq_some_iff_append.mpr ⟨h, before, after, hsplit, fun j hj => ?_⟩
  simp [hlower j.bit (hbefore j hj)]

/-- Rule R305: with none of the five bits set, no source is pending. -/
theorem firstPending_eq_none {pend : Byte} (h : ∀ k < 5, pend.getLsbD k = false) :
    firstPending pend = none := by
  refine List.find?_eq_none.mpr fun i _ => ?_
  have hbit : i.bit < 5 := by cases i <;> decide
  simp [h i.bit hbit]

/-- Settles O43: the search in the order of priority stops at the source of the lowest bit set. -/
theorem lowestPendingSourceIsServiced : Obligations.LowestPendingSourceIsServiced := by
  unfold Obligations.LowestPendingSourceIsServiced
  refine fun s => ⟨fun k hk hime hbit hlower => ?serviced, fun h => ?none, rfl⟩
  case serviced =>
    obtain ⟨i, rfl, hvector⟩ := exists_source_of_bit hk
    exact ⟨i, rfl, hvector,
      State.interruptController_of_some hime (firstPending_eq_some hbit hlower)⟩
  case none => exact State.interruptController_of_none (h.imp_right firstPending_eq_none)

/-! ## The flags (rules R26, R164) -/

/-- The flags that `w` does not name keep their values. -/
def KeepsFlags (w : Bool × Bool × Bool × Bool) (s t : State) : Prop :=
  (w.1 = false → t.flags.z = s.flags.z) ∧ (w.2.1 = false → t.flags.n = s.flags.n) ∧
  (w.2.2.1 = false → t.flags.h = s.flags.h) ∧ (w.2.2.2 = false → t.flags.c = s.flags.c)

theorem keepsFlags_of_eq {w : Bool × Bool × Bool × Bool} {s t : State} (h : t.flags = s.flags) :
    KeepsFlags w s t := by
  rw [KeepsFlags, h]
  exact ⟨fun _ => rfl, fun _ => rfl, fun _ => rfl, fun _ => rfl⟩

/-- Rules R96, R164: the flags that the escape byte's table row stands for. -/
theorem flagWrites_decodeSecondary (op2 : Byte) :
    flagWrites (decodeSecondary op2) = flagWrites (.prefixCb op2) := by
  revert op2; decide

/-- Rule R164: an instruction writes the flags of its row only. -/
theorem exec_keepsFlags {i : Instr} {s t : State} (h : exec i s = .next t) :
    KeepsFlags (flagWrites i) s t := by
  refine exec_of_wellFormed (P := fun i s t => KeepsFlags (flagWrites i) s t)
    (fun {i s t} hi h => ?_) (fun {op2 _ _} hkeeps => flagWrites_decodeSecondary op2 ▸ hkeeps) h
  cases i with
  | prefixCb op2 => cases hi
  | stop n => cases h
  | jpCC | jrCC | callCC | retCC =>
    exact of_ite_next (P := KeepsFlags _ s) h (keepsFlags_of_eq rfl) (keepsFlags_of_eq rfl)
  | incR | incHL | decR | decHL | bitR | bitHL =>
    cases h; exact ⟨nofun, nofun, nofun, fun _ => rfl⟩
  | scf | ccf | addHLPair => cases h; exact ⟨fun _ => rfl, nofun, nofun, nofun⟩
  | daa => cases h; exact ⟨nofun, fun _ => rfl, nofun, nofun⟩
  | cpl => cases h; exact ⟨fun _ => rfl, nofun, nofun, fun _ => rfl⟩
  | ldPairNN p _ | incPair p | decPair p => cases p <;> cases h <;> exact keepsFlags_of_eq rfl
  | pop q =>
    cases h
    cases q with
    | af => exact ⟨nofun, nofun, nofun, nofun⟩
    | bc | de | hl => exact keepsFlags_of_eq rfl
  | addAR | addAHL | addAN | adcAR | adcAHL | adcAN | subAR | subAHL | subAN | sbcAR | sbcAHL | sbcAN
  | andAR | andAHL | andAN | xorAR | xorAHL | xorAN | orAR | orAHL | orAN | cpAR | cpAHL | cpAN
  | ldHLSPE | addSPE | rlca | rrca | rla | rra | rlcR | rlcHL | rrcR | rrcHL | rlR | rlHL | rrR | rrHL
  | slaR | slaHL | sraR | sraHL | swapR | swapHL | srlR | srlHL =>
    exact ⟨nofun, nofun, nofun, nofun⟩
  | _ => cases h; exact keepsFlags_of_eq rfl

/-- Settles O35: the rest of a tick writes no flag, so the instruction's row of the table decides. -/
theorem flagsChangeOnlyWhereTheTableSays : Obligations.FlagsChangeOnlyWhereTheTableSays := by
  unfold Obligations.FlagsChangeOnlyWhereTheTableSays
  refine ⟨fun i s t h => exec_keepsFlags h, fun s t hstep hhalt => ?halted,
    fun s t u hstep hrun hu => ?executed⟩
  case halted =>
    cases (step_of_halted hhalt).symm.trans hstep
    rw [State.interruptController_flags, haltedBeforeController_flags]
  case executed =>
    cases (step_of_exec hrun hu).symm.trans hstep
    rw [State.interruptController_flags, executedBeforeController_flags]

/-! ## PC and SP (rules R23, R24) -/

theorem isControlFlow_toInstr (o : CbOp) (x : Slot) : isControlFlow (o.toInstr x) = false := by
  cases o <;> cases x <;> rfl

theorem writesSp_toInstr (o : CbOp) (x : Slot) : writesSp (o.toInstr x) = false := by
  cases o <;> cases x <;> rfl

/-- Rule R24: only control flow writes PC. -/
theorem exec_pc {i : Instr} {s t : State} (h : exec i s = .next t) (hflow : isControlFlow i = false) :
    t.pc = s.pc := by
  refine exec_of_wellFormed (P := fun i s t => isControlFlow i = false → t.pc = s.pc)
    (fun {i s t} hi h hflow => ?_) (fun hkeeps _ => hkeeps (isControlFlow_toInstr ..)) h hflow
  cases i with
  | prefixCb op2 => cases hi
  | stop n => cases h
  | jpNN | jpCC | jrE | jrCC | jpHL | callNN | callCC | ret | retCC | reti | rst => cases hflow
  | ldPairNN p _ | incPair p | decPair p | pop p => cases p <;> cases h <;> rfl
  | _ => cases h; rfl

/-- Rule R23: only its eight kinds of writers write SP. -/
theorem exec_sp {i : Instr} {s t : State} (h : exec i s = .next t) (hsp : writesSp i = false) :
    t.sp = s.sp := by
  refine exec_of_wellFormed (P := fun i s t => writesSp i = false → t.sp = s.sp)
    (fun {i s t} hi h hsp => ?_) (fun hkeeps _ => hkeeps (writesSp_toInstr ..)) h hsp
  cases i with
  | prefixCb op2 => cases hi
  | stop n => cases h
  | ldSPHL | addSPE | push | pop | callNN | callCC | rst | ret | retCC | reti => cases hsp
  | ldPairNN p _ | incPair p | decPair p =>
    cases h
    have hp : p ≠ .sp := of_decide_eq_false hsp
    rw [State.charge_sp, State.setPair_sp, if_neg hp]
  | jpCC | jrCC => exact of_ite_next (P := fun t => t.sp = s.sp) h rfl rfl
  | _ => cases h; rfl

/-- Rules R305, R308: after the instruction only servicing a source moves PC and SP. -/
theorem State.interruptController_pc_sp (v : State) :
    (v.interruptController.pc = v.pc ∧ v.interruptController.sp = v.sp) ∨
    (Serviced v v.interruptController ∧ v.interruptController.sp = v.sp - 2#16 ∧
      v.interruptController.readByte (v.sp - 1#16) = hiByte v.pc ∧
      v.interruptController.readByte (v.sp - 2#16) = loByte v.pc) := by
  obtain ⟨i, hime, hi, hs⟩ | ⟨-, hs⟩ := v.interruptController_serviced_or
  · right
    refine ⟨⟨i, hime, hi, hs⟩, ?_⟩
    rw [hs]
    exact ⟨rfl, v.readByte_service_high i, v.readByte_service_low i⟩
  · left
    rw [hs]
    exact ⟨rfl, rfl⟩

/-- Settles O36: the instruction's own writers, and then the controller, which services or leaves both. -/
theorem pcAndSpHaveTheseWritersOnly : Obligations.PcAndSpHaveTheseWritersOnly := by
  unfold Obligations.PcAndSpHaveTheseWritersOnly
  refine ⟨fun i s t h => ⟨exec_pc h, exec_sp h⟩, fun s t hstep hhalt => ?halted,
    fun s t u hstep hrun hu => ?executed⟩
  case halted =>
    cases (step_of_halted hhalt).symm.trans hstep
    have hmoves := (haltedBeforeController s).interruptController_pc_sp
    rwa [haltedBeforeController_pc, haltedBeforeController_sp] at hmoves
  case executed =>
    cases (step_of_exec hrun hu).symm.trans hstep
    have hmoves := (executedBeforeController s u).interruptController_pc_sp
    rw [executedBeforeController_pc, executedBeforeController_sp] at hmoves
    exact ⟨exec_pc hu, exec_sp (s := atExecution s) hu, hmoves⟩

/-! ## IME and HALT (rules R28, R30) -/

/-- Rule R28: no instruction reads IME. -/
theorem exec_setIme {i : Instr} {s t : State} (h : exec i s = .next t) (v : Bool) :
    exec i (s.setIme v) = .next (t.setIme (if i = .ei ∨ i = .reti then true else v)) := by
  obtain ⟨-, hdip, hhalt⟩ := exec_control h
  calc exec i (s.setIme v)
      = .next (t.withControl (if i = .ei ∨ i = .reti then true else v) _ _) :=
        exec_withControl h v s.dip s.halt
    _ = .next (t.withControl (if i = .ei ∨ i = .reti then true else v) t.dip t.halt) := by
        rw [hdip, hhalt]
    _ = .next (t.setIme (if i = .ei ∨ i = .reti then true else v)) := rfl

/-- Rule R311: IME after step 5 of the tick. -/
theorem State.resolveDi_ime (s : State) (executed wasDi : Bool) : (s.resolveDi executed wasDi).ime =
    if s.dip = true ∧ executed = true ∧ wasDi = false then false else s.ime := by
  split
  · next h => rw [State.resolveDi_of_pending h]; rfl
  · next h => rw [State.resolveDi_of_not_pending h]

/-- Settles O37, writer by writer; that no instruction reads IME is the law of the control bits. -/
theorem imeHasTheseWritersOnly : Obligations.ImeHasTheseWritersOnly := by
  unfold Obligations.ImeHasTheseWritersOnly
  refine ⟨fun i s t h => ?instr, State.writeByte_ime,
    fun s e b a => ⟨s.acceptIrq_ime e, s.timerUpdate_ime b a⟩, State.resolveDi_ime,
    fun s => ⟨fun hime => ?gated, fun hime => ?enabled⟩, fun i s t v h => exec_setIme h v⟩
  case instr =>
    obtain ⟨hime, -, -⟩ := exec_control h
    exact hime
  case gated =>
    rw [State.interruptController_of_none (.inl hime)]
    exact ⟨hime, rfl, rfl, fun _ _ => rfl⟩
  case enabled =>
    cases hi : firstPending s.pending with
    | none => rw [State.interruptController_of_none (.inr hi), State.setHalt_ime, hime]; rfl
    | some i => rw [State.interruptController_of_some hime hi]; rfl

/-- Rules R305, R307, R308: HALT after step 6 of the tick. -/
theorem State.interruptController_halt (s : State) : s.interruptController.halt =
    (s.halt && s.pending == 0#8 && !(s.ime && (firstPending s.pending).isSome)) := by
  obtain ⟨i, hime, hi, hs⟩ | ⟨hnone, hs⟩ := s.interruptController_serviced_or
  · rw [hs, hime, hi]
    simp
  · have hno : (s.ime && (firstPending s.pending).isSome) = false := by
      obtain hime | hi := hnone
      · rw [hime, Bool.false_and]
      · rw [hi, Option.isSome_none, Bool.and_false]
    rw [hs, hno, Bool.not_false, Bool.and_true, State.setHalt_halt]

/-- Settles O39, writer by writer; a halted step always answers. -/
theorem haltHasTheseWritersOnly : Obligations.HaltHasTheseWritersOnly := by
  unfold Obligations.HaltHasTheseWritersOnly
  refine ⟨fun i s t h => ?instr,
    fun s e b a x di => ⟨s.acceptIrq_halt e, s.timerUpdate_halt b a, s.resolveDi_halt x di⟩,
    State.interruptController_halt, fun s hhalt => ⟨_, step_of_halted hhalt, ?regs, ?flags, ?reports⟩⟩
  case instr =>
    obtain ⟨-, -, hhalt⟩ := exec_control h
    exact hhalt
  case regs => rw [State.interruptController_regs, haltedBeforeController_regs]
  case flags => rw [State.interruptController_flags, haltedBeforeController_flags]
  case reports => rw [State.interruptController_reports, haltedBeforeController_reports]

end Sys2Proof.Machine

namespace Sys2Proof.Machine

/-! ## DI one instruction later (rules R253, R311) -/

/-- Rule R311: with no DI pending before a tick, or in the tick of DI itself, step 5 resolves nothing. -/
theorem executedBeforeController_of_not_resolved {s u : State}
    (hu : exec (fetched s) (atExecution s) = .next u) (h : s.dip = false ∨ fetched s = .di) :
    executedBeforeController s u = u.timerUpdate s.cyc u.cyc := by
  obtain ⟨-, hdip, -⟩ := exec_control hu
  refine State.resolveDi_of_not_pending ?_
  rw [State.timerUpdate_dip, hdip]
  rintro ⟨hpending, -, hother⟩
  have hne : fetched s ≠ .di := of_decide_eq_false hother
  rw [if_neg hne] at hpending
  exact h.elim (fun hdip => absurd (hpending.symm.trans hdip) (by decide)) hne

/-- Rule R311: with a DI pending before the tick of another instruction, step 5 clears DIP and IME. -/
theorem executedBeforeController_of_resolved {s u : State}
    (hu : exec (fetched s) (atExecution s) = .next u) (hdip : s.dip = true) (hne : fetched s ≠ .di) :
    executedBeforeController s u = ((u.timerUpdate s.cyc u.cyc).setIme false).setDip false := by
  obtain ⟨-, hdipu, -⟩ := exec_control hu
  refine State.resolveDi_of_pending ⟨?_, rfl, decide_eq_false hne⟩
  rw [State.timerUpdate_dip, hdipu, if_neg hne]
  exact hdip

/-- Settles O41, by what step 5 does with the DI of this tick, of the tick before, or with none. -/
theorem diTakesEffectOneInstructionLater : Obligations.DiTakesEffectOneInstructionLater := by
  unfold Obligations.DiTakesEffectOneInstructionLater
  intro s t u hrun hu hstep
  obtain ⟨hime, hdip, -⟩ := exec_control hu
  cases (step_of_exec hrun hu).symm.trans hstep
  rw [State.interruptController_dip]
  refine ⟨fun hdi => ?di, fun hne hpending => ?resolved, fun hne hnone => ?none⟩
  case di =>
    rw [executedBeforeController_of_not_resolved hu (.inr hdi), State.timerUpdate_dip, hdip,
      if_pos hdi]
    refine ⟨rfl, ?_⟩
    have himes : (u.timerUpdate s.cyc u.cyc).ime = s.ime := by
      rw [State.timerUpdate_ime, hime, if_neg (by simp [hdi])]
      rfl
    obtain ⟨i, hon, -, hs⟩ | ⟨-, hs⟩ :=
      (u.timerUpdate s.cyc u.cyc).interruptController_serviced_or
    · exact .inr ⟨i, himes.symm.trans hon, by rw [hs]; rfl, by rw [hs]; rfl⟩
    · exact .inl (by rw [hs]; exact himes)
  case resolved =>
    rw [executedBeforeController_of_resolved hu hpending hne,
      State.interruptController_of_none (.inl rfl)]
    exact ⟨rfl, rfl, State.timerUpdate_pc .., State.timerUpdate_sp .., State.timerUpdate_cyc ..⟩
  case none =>
    rw [executedBeforeController_of_not_resolved hu (.inl hnone), State.timerUpdate_dip, hdip,
      if_neg hne]
    exact hnone

/-! ## Halt mode (rules R307, R326, R369) -/

/-- Rules R27, R310, R326: the halted charge and the dispatch cost together. -/
theorem cyc_halted_and_dispatch (c : BitVec 64) :
    c + 4#64 + BitVec.ofNat 64 irqDispatchCycles = c + BitVec.ofNat 64 24 := by
  rw [BitVec.add_assoc]
  rfl

/-- Settles O44: a halted step ends as the controller leaves the state before it. -/
theorem haltedStepWaitsWakesOrServices : Obligations.HaltedStepWaitsWakesOrServices := by
  unfold Obligations.HaltedStepWaitsWakesOrServices
  intro s hhalt
  refine ⟨_, step_of_halted hhalt, ?regs, ?flags, ?dip, ?reports, ?outcome⟩
  case regs => rw [State.interruptController_regs, haltedBeforeController_regs]
  case flags => rw [State.interruptController_flags, haltedBeforeController_flags]
  case dip => rw [State.interruptController_dip, haltedBeforeController_dip]
  case reports => rw [State.interruptController_reports, haltedBeforeController_reports]
  case outcome =>
    obtain ⟨i, hime, -, hs⟩ | ⟨-, hs⟩ := (haltedBeforeController s).interruptController_serviced_or
    · right
      rw [haltedBeforeController_ime] at hime
      have hhigh := (haltedBeforeController s).readByte_service_high i
      have hlow := (haltedBeforeController s).readByte_service_low i
      rw [haltedBeforeController_sp, haltedBeforeController_pc] at hhigh hlow
      rw [hs]
      refine ⟨i, hime, rfl, rfl, rfl, ?_, hhigh, hlow, ?_⟩
      · rw [State.service_sp, haltedBeforeController_sp]
      · rw [Charges, State.service_cyc, haltedBeforeController_cyc, cyc_halted_and_dispatch]
    · left
      rw [hs]
      refine ⟨haltedBeforeController_pc s, haltedBeforeController_sp s, haltedBeforeController_ime s,
        haltedBeforeController_cyc s, ?_⟩
      rw [State.setHalt_halt, haltedBeforeController_halt, hhalt, Bool.true_and, beq_iff_eq]
      rfl

/-- Rules R304, R316: neither the requests nor the timer write IE. -/
theorem haltedBeforeController_ie (s : State) :
    (haltedBeforeController s).readByte ieAddr = s.readByte ieAddr := by
  have hif : ieAddr ≠ ifAddr := by decide
  have htima : ieAddr ≠ timaAddr := by decide
  have hdiv : ieAddr ≠ divAddr := by decide
  simp [haltedBeforeController, afterRequests, State.readByte_timerUpdate, State.readByte_timaReload,
    hif, htima, hdiv]

/-- Rules R305, R326: a halted CORE with IE = 0 waits. -/
theorem step_of_halted_of_ie_zero {s : State} (hhalt : s.halt = true) (hie : s.readByte ieAddr = 0#8) :
    step s = .next (haltedBeforeController s) := by
  have hpend : (haltedBeforeController s).pending = 0#8 := by
    rw [State.pending, haltedBeforeController_ie, hie, BitVec.zero_and]
  have hnone : firstPending (haltedBeforeController s).pending = none := by rw [hpend]; rfl
  have hkeep : ((haltedBeforeController s).halt && (haltedBeforeController s).pending == 0#8) =
      (haltedBeforeController s).halt := by rw [hpend, beq_self_eq_true, Bool.and_true]
  rw [step_of_halted hhalt, State.interruptController_of_none (.inr hnone), hkeep]
  rfl

/-- A run begins with a step. -/
theorem run_succ {M : Host.Core} {s t : M.State} (h : M.step s = .next t) (n : Nat) :
    M.run (n + 1) s = M.run n t := by
  rw [Host.Core.run, h]

/-- Settles O45, by induction on the number of ticks. -/
theorem haltWithNoSourceEnabledIsForEver : Obligations.HaltWithNoSourceEnabledIsForEver := by
  unfold Obligations.HaltWithNoSourceEnabledIsForEver
  intro s n
  induction n generalizing s with
  | zero =>
    intro hhalt hie
    exact ⟨s, rfl, hhalt, hie, rfl, rfl, rfl, rfl, rfl, (BitVec.add_zero _).symm⟩
  | succ n ih =>
    intro hhalt hie
    obtain ⟨t, ht, hhalt', hie', hpc, hsp, hregs, hflags, hime, hcyc⟩ :=
      ih (haltedBeforeController s) ((haltedBeforeController_halt s).trans hhalt)
        ((haltedBeforeController_ie s).trans hie)
    refine ⟨t, (run_succ (M := core) (step_of_halted_of_ie_zero hhalt hie) n).trans ht, hhalt', hie',
      hpc.trans (haltedBeforeController_pc s), hsp.trans (haltedBeforeController_sp s),
      hregs.trans (haltedBeforeController_regs s), hflags.trans (haltedBeforeController_flags s),
      hime.trans (haltedBeforeController_ime s), ?_⟩
    rw [hcyc, haltedBeforeController_cyc, BitVec.add_assoc, ← BitVec.ofNat_add,
      show 4 + 4 * n = 4 * (n + 1) by omega]

/-! ## Requests (rules R300, R304) -/

/-- A byte stored where it stood leaves canonical memory as it was. -/
theorem State.writeByte_readByte_self {s : State} (hwf : s.mem.wf) (a : Addr) :
    s.writeByte a (s.readByte a) = s := by
  have hmem : s.mem.store a.toNat (s.readByte a) = s.mem := by
    refine Memory.ext_byteAt (Memory.wf_store hwf a.isLt _) hwf fun k => ?_
    rw [Memory.byteAt_store]
    split
    · next hk => rw [hk]; rfl
    · rfl
  rw [State.writeByte, hmem]

/-- Rules R300, R304: with no request scheduled, step 1 of the tick leaves canonical memory as it was. -/
theorem afterRequests_eq_self {s : State} (hwf : s.mem.wf) (hnone : s.extIrq = []) :
    afterRequests s = s := by
  have hdrop : s.dropExtIrq = s := by
    rw [State.dropExtIrq, hnone, List.tail_nil, ← hnone]
  have hnext : s.nextExtIrq = 0#8 := by rw [State.nextExtIrq, hnone]; rfl
  rw [afterRequests, hdrop, hnext, State.acceptIrq, BitVec.zero_and, BitVec.or_zero,
    State.writeByte_readByte_self hwf]

/-- Rule R304: the requests that reach IF are bits 4 to 0. -/
theorem getLsbD_requestMask {k : Nat} (hk : k < 8) : (0x1F#8).getLsbD k = decide (k < 5) := by
  revert k; decide

/-- Settles O46: step 1 of the tick is one store to IF, which a request of 0 makes idle. -/
theorem externalRequestsSetBitsOfIf : Obligations.ExternalRequestsSetBitsOfIf := by
  unfold Obligations.ExternalRequestsSetBitsOfIf
  refine fun s e => ⟨fun k hk => ?bits, fun x hx => ?others, s.acceptIrq_regs e, s.acceptIrq_flags e,
    s.acceptIrq_sp e, s.acceptIrq_pc e, s.acceptIrq_cyc e, s.writeByte_keepsControl _ _,
    afterRequests_eq_self⟩
  case bits =>
    rw [State.acceptIrq_readByte, if_pos rfl, BitVec.getLsbD_or, BitVec.getLsbD_and,
      getLsbD_requestMask hk, Bool.and_comm]
  case others =>
    have hne : x ≠ ifAddr := by simpa using hx
    rw [State.acceptIrq_readByte, if_neg hne]

/-! ## Precise interrupts and the return (rules R312, R313) -/

/-- Settles O47: step 5 resolves nothing and the controller services the source that is pending. -/
theorem interruptsArePrecise : Obligations.InterruptsArePrecise := by
  unfold Obligations.InterruptsArePrecise
  intro s u i hrun hu hdi hime hi
  have hservice : (u.timerUpdate s.cyc u.cyc).interruptController =
      (u.timerUpdate s.cyc u.cyc).service i :=
    State.interruptController_of_some ((u.timerUpdate_ime ..).trans hime) hi
  have hkeeps := (u.timerUpdate s.cyc u.cyc).service_keepsBytes i
  have hhigh := (u.timerUpdate s.cyc u.cyc).readByte_service_high i
  have hlow := (u.timerUpdate s.cyc u.cyc).readByte_service_low i
  rw [State.timerUpdate_sp] at hkeeps hhigh hlow
  rw [State.timerUpdate_pc] at hhigh hlow
  refine ⟨_, step_of_exec hrun hu, ?_⟩
  rw [executedBeforeController_of_not_resolved hu hdi, hservice]
  refine ⟨rfl, hkeeps, rfl, ?sp, hhigh, hlow, rfl, rfl, ?regs, ?flags, ?cyc⟩
  case sp => rw [State.service_sp, State.timerUpdate_sp]
  case regs => rw [State.service_regs, State.timerUpdate_regs]
  case flags => rw [State.service_flags, State.timerUpdate_flags]
  case cyc => rw [Charges, State.service_cyc, State.timerUpdate_cyc]

/-- Rules R180, R308: what the entry pushed is what a pop then gives. -/
theorem State.popValue_service (s : State) (i : IrqSource) : (s.service i).popValue = s.pc :=
  State.popValue_push16 ((s.setIme false).writeByte ifAddr _) s.pc

/-- Settles O48: RETI pops what the entry pushed. -/
theorem retiUndoesTheTrapEntry : Obligations.RetiUndoesTheTrapEntry := by
  unfold Obligations.RetiUndoesTheTrapEntry
  intro s i
  refine ⟨_, exec_reti _, s.popValue_service i, ?sp, rfl, s.service_halt i, s.service_dip i,
    s.service_regs i, s.service_flags i, s.service_keepsHidden i⟩
  case sp =>
    show (s.service i).sp + 2#16 = s.sp
    rw [State.service_sp, BitVec.sub_add_cancel]

end Sys2Proof.Machine

namespace Sys2Proof.Machine

/-! ## The timer (rules R316 to R321) -/

/-- Rule R321: bit 2 of TAC, as a digit of its number. -/
theorem timaEnabled_eq (tac : Byte) : timaEnabled tac = decide (tac.toNat / 4 % 2 = 1) := by
  revert tac; decide

/-- Rule R321: the period, by the number in bits 1 to 0 of TAC. -/
theorem timaPeriod_eq (tac : Byte) : timaPeriod tac =
    if tac.toNat % 4 = 0 then 1024 else if tac.toNat % 4 = 1 then 16
      else if tac.toNat % 4 = 2 then 64 else 256 := by
  revert tac; decide

/-- Rule R321: the period, as an entry of the table. -/
theorem timaPeriod_getD (tac : Byte) : [1024, 16, 64, 256].getD (tac.toNat % 4) 0 = timaPeriod tac := by
  revert tac; decide

/-- Rule R321: the enable and the period look at bits 2 to 0 of TAC only. -/
theorem tac_fields_and_seven (tac : Byte) :
    timaEnabled (tac &&& 7#8) = timaEnabled tac ∧ timaPeriod (tac &&& 7#8) = timaPeriod tac := by
  revert tac; decide

/-- Rules R317, R319: with no reload due, TIMA grows by the periods that elapsed. -/
theorem State.readByte_timerUpdate_tima {s : State} (hovf : s.ovf = false)
    (htac : timaEnabled (s.readByte tacAddr) = true) (b a : BitVec 64) :
    (s.timerUpdate b a).readByte timaAddr = s.readByte timaAddr +
      BitVec.ofNat 8 ((s.timaAcc + (a - b).toNat) / timaPeriod (s.readByte tacAddr)) := by
  rw [State.readByte_timerUpdate, if_pos ⟨rfl, htac⟩, State.timaReload_of_not_ovf hovf]

/-- Rules R317, R319: with no reload due and TIMA disabled, it stays. -/
theorem State.readByte_timerUpdate_tima_of_disabled {s : State} (hovf : s.ovf = false)
    (htac : timaEnabled (s.readByte tacAddr) = false) (b a : BitVec 64) :
    (s.timerUpdate b a).readByte timaAddr = s.readByte timaAddr :=
  State.timerUpdate_keepsBytes_of_disabled hovf htac b a timaAddr (by decide)

/-- A count added to a byte, as numbers. -/
theorem add_ofNat_toNat (v : Byte) (n : Nat) : (v + BitVec.ofNat 8 n).toNat = (v.toNat + n) % 256 := by
  rw [BitVec.toNat_add, BitVec.toNat_ofNat, Nat.add_mod_mod]

/-- Settles O50: with no reload due, TIMA takes the quotient by the period and the remainder stays. -/
theorem timaCountsPeriods : Obligations.TimaCountsPeriods := by
  unfold Obligations.TimaCountsPeriods
  intro s b a hovf
  dsimp only
  rw [← timaPeriod_eq]
  refine ⟨fun htac => ?enabled, fun htac => ?disabled, State.timerUpdate_keepsBytes hovf b a⟩
  case enabled =>
    have hon : timaEnabled (s.readByte tacAddr) = true := by rw [timaEnabled_eq, htac]; rfl
    refine ⟨?_, ?_, ?_⟩
    · rw [State.readByte_timerUpdate_tima hovf hon, add_ofNat_toNat]
    · rw [State.timerUpdate_timaAcc, if_pos hon]
    · rw [State.timerUpdate_ovf, hon, State.timaReload_of_not_ovf hovf, Bool.true_and,
        decide_eq_true_iff]
  case disabled =>
    have hoff : timaEnabled (s.readByte tacAddr) = false := by rw [timaEnabled_eq, htac]; rfl
    refine ⟨State.readByte_timerUpdate_tima_of_disabled hovf hoff b a, ?_, ?_⟩
    · rw [State.timerUpdate_timaAcc, hoff, if_neg (by decide)]
    · rw [State.timerUpdate_ovf, hoff, Bool.false_and]

/-- The state that a due reload leaves: TIMA from TMA, bit 2 of IF set, nothing due (rule R320). -/
def State.reloaded (s : State) : State :=
  { ((s.writeByte timaAddr (s.readByte tmaAddr)).writeByte ifAddr (s.readByte ifAddr ||| 4#8)) with
    ovf := false }

/-- Rule R320: a due reload comes first in an update. -/
theorem State.timaReload_of_ovf {s : State} (h : s.ovf = true) : s.timaReload = s.reloaded := by
  have hif : (s.writeByte timaAddr (s.readByte tmaAddr)).readByte ifAddr = s.readByte ifAddr := by
    rw [State.readByte_writeByte, if_neg (by decide)]
  rw [State.timaReload, if_pos h]
  simp only [hif]
  rfl

/-- Rule R320: an update with a reload due is an update of the reloaded state. -/
theorem State.timerUpdate_of_ovf {s : State} (h : s.ovf = true) (b a : BitVec 64) :
    s.timerUpdate b a = s.reloaded.timerUpdate b a := by
  rw [State.timerUpdate, State.timerUpdate, State.timaReload_of_ovf h,
    State.timaReload_of_not_ovf (s := s.reloaded) rfl]

theorem State.readByte_reloaded (s : State) (x : Addr) : s.reloaded.readByte x =
    if x = ifAddr then s.readByte ifAddr ||| 4#8
    else if x = timaAddr then s.readByte tmaAddr else s.readByte x := by
  show ((s.writeByte timaAddr (s.readByte tmaAddr)).writeByte ifAddr _).readByte x = _
  rw [State.readByte_writeByte, State.readByte_writeByte]

/-- Settles O51: an update with a reload due is an update of the reloaded state. -/
theorem timaReloadIsOneUpdateLate : Obligations.TimaReloadIsOneUpdateLate := by
  unfold Obligations.TimaReloadIsOneUpdateLate
  refine ⟨fun s b a hovf hraised => ?overflow, fun s b a hovf =>
    ⟨State.timerUpdate_of_ovf hovf b a, ?request, fun htac => ?disabled⟩⟩
  case overflow =>
    rw [State.timerUpdate_ovf, State.timaReload_of_not_ovf hovf, Bool.and_eq_true,
      decide_eq_true_iff] at hraised
    obtain ⟨hon, hcount⟩ := hraised
    refine ⟨hcount, ?_, State.timerUpdate_keepsBytes hovf b a ifAddr (by decide)⟩
    rw [State.readByte_timerUpdate_tima hovf hon, add_ofNat_toNat]
  case request =>
    rw [State.timerUpdate_of_ovf hovf,
      State.timerUpdate_keepsBytes (s := s.reloaded) rfl b a ifAddr (by decide),
      State.readByte_reloaded, if_pos rfl]
  case disabled =>
    have hoff : timaEnabled (s.reloaded.readByte tacAddr) = false := by
      rw [State.readByte_reloaded, if_neg (by decide), if_neg (by decide)]
      exact htac
    rw [State.timerUpdate_of_ovf hovf]
    refine ⟨?_, ?_⟩
    · rw [State.readByte_timerUpdate_tima_of_disabled (s := s.reloaded) rfl hoff,
        State.readByte_reloaded, if_neg (by decide), if_pos rfl]
    · rw [State.timerUpdate_ovf, hoff, Bool.false_and]

/-- Rule R321: an update reads TAC through its enable and its period only, and writes no TAC. -/
theorem State.timerUpdate_congr_tac {s s' : State}
    (hbytes : KeepsBytes [tacAddr] s s') (hdiv : s'.divAcc = s.divAcc)
    (htima : s'.timaAcc = s.timaAcc) (hovf : s'.ovf = s.ovf)
    (henabled : timaEnabled (s'.readByte tacAddr) = timaEnabled (s.readByte tacAddr))
    (hperiod : timaPeriod (s'.readByte tacAddr) = timaPeriod (s.readByte tacAddr))
    (b a : BitVec 64) :
    KeepsBytes [tacAddr] (s.timerUpdate b a) (s'.timerUpdate b a) ∧
      (s'.timerUpdate b a).timaAcc = (s.timerUpdate b a).timaAcc ∧
      (s'.timerUpdate b a).divAcc = (s.timerUpdate b a).divAcc ∧
      (s'.timerUpdate b a).ovf = (s.timerUpdate b a).ovf := by
  have hreload : ∀ x, x ≠ tacAddr → s'.timaReload.readByte x = s.timaReload.readByte x := by
    intro x hx
    rw [State.readByte_timaReload, State.readByte_timaReload, hovf, hbytes tmaAddr (by decide),
      hbytes ifAddr (by decide), hbytes x (by simpa using hx)]
  refine ⟨fun x hx => ?_, ?_, ?_, ?_⟩
  · have hne : x ≠ tacAddr := by simpa using hx
    rw [State.readByte_timerUpdate, State.readByte_timerUpdate, henabled, hperiod, htima, hdiv,
      hreload timaAddr (by decide), hbytes divAddr (by decide), hreload x hne]
  · rw [State.timerUpdate_timaAcc, State.timerUpdate_timaAcc, henabled, hperiod, htima]
  · rw [State.timerUpdate_divAcc, State.timerUpdate_divAcc, hdiv]
  · rw [State.timerUpdate_ovf, State.timerUpdate_ovf, henabled, hperiod, htima,
      hreload timaAddr (by decide)]

/-- Rules R316 to R320: no update writes TAC. -/
theorem State.readByte_timerUpdate_tac (s : State) (b a : BitVec 64) :
    (s.timerUpdate b a).readByte tacAddr = s.readByte tacAddr := by
  rw [State.readByte_timerUpdate, if_neg (fun h => absurd h.left (by decide)), if_neg (by decide),
    State.readByte_timaReload, if_neg (fun h => absurd h.right (by decide)),
    if_neg (fun h => absurd h.right (by decide))]

/-- Settles O52: an update reads TAC through its enable and its period, which bits 2 to 0 decide. -/
theorem tacFields : Obligations.TacFields := by
  unfold Obligations.TacFields
  intro s v b a
  have htac (w : Byte) : (s.writeByte tacAddr w).readByte tacAddr = w := by
    rw [State.readByte_writeByte, if_pos rfl]
  have hother (w : Byte) {x : Addr} (hx : x ≠ tacAddr) :
      (s.writeByte tacAddr w).readByte x = s.readByte x := by
    rw [State.readByte_writeByte, if_neg hx]
  refine ⟨fun hon hovf hacc hdelta => ?counts, fun hoff hovf => ?stays, ⟨htac v, ?kept⟩, ?plain⟩
  case counts =>
    have henabled : timaEnabled ((s.writeByte tacAddr v).readByte tacAddr) = true := by
      rw [htac, timaEnabled_eq, hon]; rfl
    obtain ⟨hpos, -⟩ := timaPeriod_bounds v
    have htotal : (s.writeByte tacAddr v).timaAcc + (a - b).toNat = timaPeriod v := by
      rw [State.writeByte_timaAcc, hacc, Nat.zero_add, hdelta, timaPeriod_getD]
    refine ⟨?_, ?_⟩
    · rw [State.readByte_timerUpdate_tima (s := s.writeByte tacAddr v) hovf henabled, htotal, htac,
        Nat.div_self hpos, hother v (by decide)]
    · rw [State.timerUpdate_timaAcc, if_pos henabled, htotal, htac, Nat.mod_self]
  case stays =>
    have hdisabled : timaEnabled ((s.writeByte tacAddr v).readByte tacAddr) = false := by
      rw [htac, timaEnabled_eq, hoff]; rfl
    refine ⟨?_, ?_⟩
    · rw [State.readByte_timerUpdate_tima_of_disabled (s := s.writeByte tacAddr v) hovf hdisabled,
        hother v (by decide)]
    · rw [State.timerUpdate_timaAcc, hdisabled, if_neg (by decide), State.writeByte_timaAcc]
  case kept => rw [State.readByte_timerUpdate_tac, htac]
  case plain =>
    obtain ⟨henabled, hperiod⟩ := tac_fields_and_seven v
    refine State.timerUpdate_congr_tac (s := s.writeByte tacAddr (v &&& 7#8))
      (s' := s.writeByte tacAddr v) (fun x hx => ?_) rfl rfl rfl ?_ ?_ b a
    · have hne : x ≠ tacAddr := by simpa using hx
      rw [hother v hne, hother _ hne]
    · rw [htac, htac, henabled]
    · rw [htac, htac, hperiod]

end Sys2Proof.Machine

namespace Sys2Proof.Machine

/-! ## The timer within a step (rules R310, R316, R326) -/

/-- Rule R316: an update does not look at CYC, only at the cycles it is given. -/
theorem State.timerUpdate_charge (s : State) (n : Nat) (b a : BitVec 64) :
    KeepsBytes [tacAddr] (s.timerUpdate b a) ((s.charge n).timerUpdate b a) ∧
      ((s.charge n).timerUpdate b a).ovf = (s.timerUpdate b a).ovf := by
  obtain ⟨hbytes, -, -, hovf⟩ := State.timerUpdate_congr_tac (s := s) (s' := s.charge n)
    (fun _ _ => rfl) rfl rfl rfl rfl rfl b a
  exact ⟨hbytes, hovf⟩

/-- Rules R316, R326: the update of a halted step is given the halted charge. -/
theorem haltedBeforeController_eq (s : State) : haltedBeforeController s =
    ((afterRequests s).charge haltTickCycles).timerUpdate 0#64 4#64 := by
  have hdelta : s.cyc + BitVec.ofNat 64 haltTickCycles - s.cyc = 4#64 := by
    rw [BitVec.add_comm, BitVec.add_sub_cancel]
    rfl
  show State.timerUpdate _ s.cyc (s.cyc + BitVec.ofNat 64 haltTickCycles) = _
  rw [State.timerUpdate_sub, hdelta]

/-- Rules R305, R308: step 6 of the tick stores to the stack and to IF only. -/
theorem State.interruptController_keepsBytes (v : State) :
    KeepsBytes [v.sp - 1#16, v.sp - 2#16, ifAddr] v v.interruptController := by
  obtain ⟨i, -, -, hs⟩ | ⟨-, hs⟩ := v.interruptController_serviced_or
  · rw [hs]
    exact v.service_keepsBytes i
  · rw [hs]
    exact fun _ _ => rfl

/-- Rules R27, R310: CYC after step 6 of the tick. -/
theorem State.interruptController_charges (v : State) :
    Charges 0 v v.interruptController ∨
      (Charges irqDispatchCycles v v.interruptController ∧ v.interruptController.ime = false) := by
  obtain ⟨i, -, -, hs⟩ | ⟨-, hs⟩ := v.interruptController_serviced_or
  · right
    rw [hs]
    exact ⟨rfl, rfl⟩
  · left
    rw [hs]
    exact (BitVec.add_zero _).symm

/-- The registers of the timer lie apart from IF and TAC (rules R33 to R37). -/
theorem counter_ne {a : Addr} (h : a = divAddr ∨ a = timaAddr) : a ≠ ifAddr ∧ a ≠ tacAddr := by
  obtain rfl | rfl := h <;> decide

/-- Settles O53: the controller keeps what the update left, and the update is given the cycles of the
instruction or of the halted charge. -/
theorem timerNeverSeesDispatchCycles : Obligations.TimerNeverSeesDispatchCycles := by
  unfold Obligations.TimerNeverSeesDispatchCycles
  refine fun s t hstep => ⟨fun hhalt => ?halted, fun u hrun hu => ?executed⟩
  case halted =>
    cases (step_of_halted hhalt).symm.trans hstep
    have htac : ((afterRequests s).charge haltTickCycles).readByte tacAddr = s.readByte tacAddr := by
      rw [State.charge_readByte, afterRequests, State.acceptIrq_readByte, if_neg (by decide),
        State.dropExtIrq_readByte]
    obtain ⟨hbytes, hovf⟩ := (afterRequests s).timerUpdate_charge haltTickCycles 0#64 4#64
    rw [State.interruptController_divAcc, State.interruptController_timaAcc,
      State.interruptController_ovf]
    refine ⟨?cyc, ?div, ?tima, ?ovf, fun a ha hstack => ?bytes⟩
    case cyc =>
      obtain hcyc | ⟨hcyc, hime⟩ := (haltedBeforeController s).interruptController_charges
      · rw [Charges, haltedBeforeController_cyc, BitVec.add_zero] at hcyc
        exact .inl hcyc
      · rw [Charges, haltedBeforeController_cyc, cyc_halted_and_dispatch] at hcyc
        exact .inr ⟨hcyc, hime⟩
    case div =>
      rw [haltedBeforeController_eq, State.timerUpdate_divAcc]
      rfl
    case tima =>
      rw [haltedBeforeController_eq, State.timerUpdate_timaAcc, htac]
      rfl
    case ovf => rw [haltedBeforeController_eq, hovf]
    case bytes =>
      obtain ⟨hif, htacAddr⟩ := counter_ne ha
      have hkeeps := (haltedBeforeController s).interruptController_keepsBytes a
      rw [haltedBeforeController_sp] at hkeeps
      rw [hkeeps (by simp_all), haltedBeforeController_eq, hbytes a (by simpa using htacAddr)]
  case executed =>
    cases (step_of_exec hrun hu).symm.trans hstep
    have hdiv : u.divAcc = s.divAcc := exec_divAcc (s := atExecution s) hu
    have htima : u.timaAcc = s.timaAcc := exec_timaAcc (s := atExecution s) hu
    dsimp only
    rw [← State.timerUpdate_sub]
    refine ⟨?cyc', ?div', ?tima', ?ovf', fun a ha hstack => ?bytes'⟩
    case cyc' =>
      obtain hcyc | ⟨hcyc, hime⟩ := (executedBeforeController s u).interruptController_charges
      · rw [Charges, executedBeforeController_cyc] at hcyc
        exact .inl hcyc
      · rw [Charges, executedBeforeController_cyc] at hcyc
        exact .inr ⟨hcyc, hime⟩
    case div' =>
      rw [State.interruptController_divAcc, executedBeforeController, State.resolveDi_divAcc,
        State.timerUpdate_divAcc, hdiv]
    case tima' =>
      rw [State.interruptController_timaAcc, executedBeforeController, State.resolveDi_timaAcc,
        State.timerUpdate_timaAcc, htima]
    case ovf' =>
      rw [State.interruptController_ovf, executedBeforeController, State.resolveDi_ovf]
    case bytes' =>
      obtain ⟨hif, -⟩ := counter_ne ha
      have hkeeps := (executedBeforeController s u).interruptController_keepsBytes a
      rw [executedBeforeController_sp] at hkeeps
      exact (hkeeps (by simp_all)).trans (State.resolveDi_readByte ..)

/-! ## A store over the next instruction (rules R70, R73) -/

/-- The first byte decides alone: an instruction of one byte is decoded from it, whatever follows. -/
theorem decodeBytes_of_encode_one {i : Instr} {op : Byte} (hw : i.wellFormed = true)
    (henc : encode i = [op]) (n1 n2 : Byte) : decodeBytes op n1 n2 = i := by
  have hdecode : decode (encode i ++ [n1, n2]) = .ok (i, [n1, n2]) := decodeInvertsEncode i _ hw
  rw [henc, List.singleton_append, decode_three_bytes] at hdecode
  injection hdecode with hpair
  exact congrArg Prod.fst hpair

/-- Rules R317, R320: an update stores to DIV, TIMA and IF only. -/
theorem State.readByte_timerUpdate_of_ne {x : Addr} (hx : x ∉ [divAddr, timaAddr, ifAddr]) (s : State)
    (b a : BitVec 64) : (s.timerUpdate b a).readByte x = s.readByte x := by
  obtain ⟨hdiv, htima, hif⟩ : x ≠ divAddr ∧ x ≠ timaAddr ∧ x ≠ ifAddr := by simpa using hx
  rw [State.readByte_timerUpdate, if_neg (fun h => htima h.left), if_neg hdiv,
    State.readByte_timaReload, if_neg (fun h => htima h.right), if_neg (fun h => hif h.right)]

/-- Settles O54: with IME 0 nothing after the instruction stores over the byte, so the next tick fetches
it; its instruction is known from that byte alone. -/
theorem storeIsSeenByTheNextFetch : Obligations.StoreIsSeenByTheNextFetch := by
  unfold Obligations.StoreIsSeenByTheNextFetch
  intro s hrun hime _ hfetched hhl hfree
  have hu : exec (fetched s) (atExecution s) =
      .next (((atExecution s).writeByte s.hl (s.reg .a)).charge 8) := by
    rw [hfetched]
    exact exec_ldHLR .a (atExecution s)
  generalize hdef : ((atExecution s).writeByte s.hl (s.reg .a)).charge 8 = u at hu
  have hpc : u.pc = s.pc + 1#16 := by
    rw [← hdef]
    show s.pc + BitVec.ofNat 16 (fetched s).length = _
    rw [hfetched]
    rfl
  have hbyte : (executedBeforeController s u).readByte (s.pc + 1#16) = s.reg .a := by
    rw [← hhl, executedBeforeController, State.resolveDi_readByte,
      State.readByte_timerUpdate_of_ne hfree, ← hdef, State.charge_readByte, State.readByte_writeByte,
      if_pos rfl]
  have hoff : (executedBeforeController s u).ime = false := by
    rw [executedBeforeController, State.resolveDi_ime, State.timerUpdate_ime, ← hdef]
    split
    · rfl
    · exact hime
  have hstep := step_of_exec hrun hu
  rw [State.interruptController_of_none (.inl hoff)] at hstep
  generalize hend : (executedBeforeController s u).setHalt _ = t at hstep
  have htpc : t.pc = s.pc + 1#16 := by
    rw [← hend, State.setHalt_pc, executedBeforeController_pc, hpc]
  have htbyte : t.readByte t.pc = s.reg .a := by
    rw [htpc, ← hend, State.setHalt_readByte, hbyte]
  refine ⟨t, hstep, htpc, htbyte, fun i hw henc => ?fetch⟩
  case fetch =>
    have hne : t.pc ≠ ifAddr := by
      rw [htpc, ← hhl]
      intro h
      simp [h] at hfree
    have hop : (afterRequests t).readByte t.pc = s.reg .a := by
      rw [afterRequests, State.acceptIrq_readByte, if_neg hne, State.dropExtIrq_readByte, htbyte]
    show decodeBytes ((afterRequests t).readByte t.pc) _ _ = i
    rw [hop]
    exact decodeBytes_of_encode_one hw henc _ _

/-! ## Reset and load (rules R75, R360) -/

/-- Bytes stored one after the other, each at its address. -/
def State.writeCells (s : State) (cells : List (Addr × Byte)) : State :=
  cells.foldl (fun s p => s.writeByte p.1 p.2) s

/-- The state of a launch before its memory is listed (rule R360). -/
def launchBase (l : Launch) : State :=
  { State.reset with
    regs := { b := l.resetB, c := l.resetC, d := l.resetD, e := l.resetE, h := l.resetH, l := l.resetL,
              a := l.resetA }
    flags := .ofByte l.resetF
    sp := l.resetSP
    pc := l.resetPC }

theorem launch_eq (l : Launch) : State.launch l = (launchBase l).writeCells l.resetMem := rfl

/-- Bytes stored change memory only. -/
theorem State.writeCells_eq (s : State) (cells : List (Addr × Byte)) :
    s.writeCells cells = { s with mem := (s.writeCells cells).mem } := by
  induction cells generalizing s with
  | nil => rfl
  | cons p rest ih => exact ih (s.writeByte p.1 p.2)

/-- Bytes stored keep the canonical form of memory. -/
theorem State.wf_writeCells {s : State} (h : s.mem.wf) (cells : List (Addr × Byte)) :
    (s.writeCells cells).mem.wf := by
  induction cells generalizing s with
  | nil => exact h
  | cons p rest ih => exact ih (State.wf_writeByte h p.1 p.2)

/-- Bytes stored elsewhere leave a byte alone. -/
theorem State.readByte_writeCells_of_ne {a : Addr} {cells : List (Addr × Byte)}
    (h : ∀ p ∈ cells, p.1 ≠ a) (s : State) : (s.writeCells cells).readByte a = s.readByte a := by
  induction cells generalizing s with
  | nil => rfl
  | cons p rest ih =>
    obtain ⟨hp, hrest⟩ := List.forall_mem_cons.mp h
    calc ((s.writeByte p.1 p.2).writeCells rest).readByte a
        = (s.writeByte p.1 p.2).readByte a := ih hrest _
      _ = s.readByte a := by rw [State.readByte_writeByte, if_neg (Ne.symm hp)]

/-- The last byte listed for an address is the one it holds. -/
theorem State.readByte_writeCells_last (s : State) {pre post : List (Addr × Byte)} {a : Addr} {v : Byte}
    (h : ∀ p ∈ post, p.1 ≠ a) : (s.writeCells (pre ++ (a, v) :: post)).readByte a = v := by
  have hsplit : s.writeCells (pre ++ (a, v) :: post) =
      ((s.writeCells pre).writeByte a v).writeCells post := List.foldl_append ..
  rw [hsplit, State.readByte_writeCells_of_ne h, State.readByte_writeByte, if_pos rfl]

/-- Settles O55: storing the listed memory changes memory only, and the last entry of an address wins. -/
theorem resetTakesTheLaunchValues : Obligations.ResetTakesTheLaunchValues := by
  unfold Obligations.ResetTakesTheLaunchValues
  refine ⟨fun l => ?launch, rfl⟩
  case launch =>
    have hmem : ∀ (pre post : List (Addr × Byte)) (a : Addr) (v : Byte),
        l.resetMem = pre ++ (a, v) :: post → (∀ p ∈ post, p.1 ≠ a) →
        (State.launch l).readByte a = v := by
      intro pre post a v hlist hpost
      rw [launch_eq, hlist, State.readByte_writeCells_last _ hpost]
    have hrest := (launchBase l).writeCells_eq l.resetMem
    rw [← launch_eq] at hrest
    dsimp only
    generalize State.launch l = s at hmem hrest
    rw [hrest] at hmem ⊢
    exact ⟨⟨rfl, rfl, rfl, rfl, rfl, rfl, rfl⟩, rfl, rfl, rfl, hmem, rfl, rfl, rfl, rfl, rfl, rfl, rfl⟩

/-- Settles O56: memory starts empty and is listed byte by byte; the hidden state is 0. -/
theorem resetMeetsTheInvariant : Obligations.ResetMeetsTheInvariant := by
  unfold Obligations.ResetMeetsTheInvariant
  refine ⟨⟨⟨List.Pairwise.nil, nofun⟩, by decide, by decide, nofun⟩, fun l => ?launch⟩
  case launch =>
    have hwf : (State.launch l).mem.wf := State.wf_writeCells (s := launchBase l) ⟨.nil, nofun⟩ _
    have hrest := (launchBase l).writeCells_eq l.resetMem
    rw [← launch_eq] at hrest
    refine ⟨hwf, ?_, ?_, ?_⟩
    all_goals rw [hrest]
    · exact Nat.zero_lt_succ _
    · exact Nat.zero_lt_succ _
    · exact nofun

/-- Rules R61, R65: bytes stored upward from an address, at most one round of memory: each is read back
at its place, counted from there, and no other byte changes. -/
theorem State.readByte_writeBytes (s : State) (a x : Addr) {bytes : List Byte}
    (hlen : bytes.length ≤ 65536) : (s.writeBytes a bytes).readByte x =
      if (x - a).toNat < bytes.length then bytes.getD (x - a).toNat 0#8 else s.readByte x := by
  induction bytes generalizing s a with
  | nil => rfl
  | cons v rest ih =>
    rw [List.length_cons] at hlen
    rw [State.writeBytes, ih _ _ (by omega), List.length_cons, State.readByte_writeByte]
    by_cases hx : x = a
    · subst hx
      have hwrap : ¬ (x - (x + 1#16)).toNat < rest.length := by bv_omega
      rw [if_neg hwrap, if_pos rfl, BitVec.sub_self]
      rfl
    · have hpred : (x - a).toNat = (x - (a + 1#16)).toNat + 1 := by bv_omega
      rw [if_neg hx, hpred, List.getD_cons_succ]
      simp only [Nat.add_lt_add_iff_right]

/-- Settles O58: each byte is read back at its distance from address 0. -/
theorem loadPlacesBytesFromAddressZero : Obligations.LoadPlacesBytesFromAddressZero := by
  unfold Obligations.LoadPlacesBytesFromAddressZero
  refine fun s bytes => ⟨fun hlen => ⟨s.writeBytes 0#16 bytes, ?load, fun k hk => ?placed,
    fun a ha => ?others, s.writeBytes_regs .., s.writeBytes_flags .., s.writeBytes_sp ..,
    s.writeBytes_pc .., s.writeBytes_cyc .., ?control⟩, fun hlen => if_pos hlen⟩
  case load => exact if_neg (Nat.not_lt.mpr hlen)
  case placed =>
    have hk' : (BitVec.ofNat 16 k).toNat = k := by
      rw [BitVec.toNat_ofNat, Nat.mod_eq_of_lt (by omega)]
    rw [State.peek, State.readByte_writeBytes _ _ _ hlen, BitVec.sub_zero, hk', if_pos hk]
  case others =>
    rw [State.peek, State.readByte_writeBytes _ _ _ hlen, BitVec.sub_zero, if_neg (Nat.not_lt.mpr ha)]
    rfl
  case control => simp [KeepsControl, KeepsHidden]

end Sys2Proof.Machine
